-- ==== Sys2Proof/Word.lean ====
section
/-! DEFINITION. The machine words of the bridge. -/

namespace Sys2Proof

/-- One byte: a memory byte lane, or a byte of a link frame. -/
abbrev Byte := BitVec 8

/-- A word is 16 bits; the static memory is word-wide (00_scope.md, "Terms"). -/
abbrev Word := BitVec 16

end Sys2Proof
end

