-- ==== Sys2Proof/Config.lean ====
section
/-! DEFINITION. What the part fixes, and the values its description leaves open. -/

namespace Sys2Proof.Config

/-- Entries the posting queue holds (R47). -/
abbrev queuePlaces : Nat := 8

/-- Entries the saved-block set holds (R32). -/
abbrev savedPlaces : Nat := 32

/-- Words of the anchor block (R80). -/
abbrev anchorWords : Nat := 42

/-- The format mark of the anchor block (R80, R177). -/
abbrev formatMark : Word := 0x6A4B#16

/-- The sum every checked structure has (R176). -/
abbrev checkSum : Word := 0x3E91#16

/-- The sum of the bytes of a command part or response part (R166, R167). -/
abbrev frameSum : Byte := 0x5A#8

/-- Every kind enabled except GROUP_COMMITTED (R101, R177). -/
abbrev resetMask : BitVec 11 := 0x5FF#11

/-- What a memory byte that nothing has written reads as.
DESIGN CHOICE, log entry 2: the description gives fresh memory no contents. -/
abbrev freshByte : Byte := 0

/-- The n-th free value: the word that was being written when power was lost "may hold its
new contents, its old contents, or a value that is neither, in either lane" (R146).
It has no body, so nothing can be proved of its value. Log entries 9 and 24. -/
opaque freeWord : Nat → Word

/-- The n-th free value: how many filler bytes had been shifted when the answer of a READ_JOURNAL
came; R167 says zero or more. It has no body, so nothing can be proved of its value. Log entries 24
and 28. -/
opaque freeFillers : Nat → Nat

/-- The n-th free value: whether the next word of a host read in flight has come back when its data
phase is taken; R135 answers the data phases as the words come back, and the time is left out. It has
no body, so nothing can be proved of its value. Log entries 24 and 29. -/
opaque freeWordBack : Nat → Bool

end Sys2Proof.Config
end

