-- ==== Sys2Proof/Syntax.lean ====
section
/-! DEFINITION. The commands of the bridge: one constructor per row of spec/opcode_table.json. -/

namespace Sys2Proof

/-- The lane set of one word of a write (R127). -/
inductive LaneSet where
  | none
  | low
  | high
  | both
  deriving DecidableEq, Repr

/-- What an address phase carries (R127). `lanes` holds one lane set for each word of a write
that is not a single-byte write. -/
structure AddressPhase where
  addr       : BitVec 24
  write      : Bool
  count      : Nat
  lanes      : List LaneSet
  singleByte : Bool
  deriving DecidableEq, Repr

/-- The commands, in the table's order. -/
inductive Instr where
  /-- POWER_ON, with the strap levels then read (R100, R147). -/
  | powerOn (straps : BitVec 2)
  /-- POWER_LOSS, with how many words of the transfer in flight were whole in memory (R146). -/
  | powerLoss (wordsWritten : Nat)
  | rstAssertion
  /-- RST_RELEASE, with the strap levels then read (R100, R147). -/
  | rstRelease (straps : BitVec 2)
  | grpRise
  | grpFall
  | pfailAssertion
  | pfailDeassertion
  /-- LSEL_DEASSERTION, with the bits sampled from LDI in a command part that was not finished
  (R164, R168). -/
  | lselDeassertion (bits : List Bool)
  | status
  | nextEvent
  | abortGroup
  | setMask (mask : Word)
  | readLive (offset count : Byte)
  | readStage (offset count : Byte)
  | stage (offset count : Byte) (words : List Word)
  | copyLiveToStage
  | storeAnchor
  | format
  | readJournal (offset : Word) (count : Byte)
  | scanRegion (index : Byte)
  /-- UNKNOWN_COMMAND, with the command byte (R165, R180). -/
  | unknownCommand (code : Byte)
  /-- BAD_CHECK_FRAME, with the bytes of the command part (R166). -/
  | badCheckFrame (part : List Byte)
  | hostAddressPhase (p : AddressPhase)
  /-- HOST_DATA_PHASE, with the word on the bus (of no account in a read) (R127, R128). -/
  | hostDataPhase (data : Word)
  | heldAccessRelease
  | waitingWriteTakesPlace
  | queuedReadProceeds
  | tick
  | ageTimeout
  | scanIntervalExpiry
  | duePeriodicScanStart
  | forwardWorkStart
  | storeWorkStart
  | backwardActivityStart
  | anchorLoadComplete
  | headerSlotsReadComplete
  | walkReadComplete
  | recoveryHeaderRewriteComplete
  | recoveryClosingHeaderComplete
  | wipeTransferComplete
  | wipeHeaderComplete
  | openingHeaderComplete
  | openRecordComplete
  | blockReadComplete
  | imageRecordComplete
  | dataWriteComplete
  | commitRecordComplete
  | commitHeaderComplete
  | imageRecordReadComplete
  | restoreBlockWriteComplete
  | undoneRecordComplete
  | rollbackHeaderComplete
  | hostReadTransferComplete
  | headerSlotClearComplete
  | anchorWriteTransferComplete
  | formatTransferComplete
  | scanReadComplete
  | linkJournalReadComplete
  | safeEntry
  | lselAssertion
  deriving DecidableEq, Repr

end Sys2Proof
end

