-- ==== Sys2Proof/WellFormed.lean ====
section
/-! DEFINITION. Which commands can be sent at all: the checks on their operands. -/

namespace Sys2Proof

/-- The argument and check bytes after the command byte that a command part has, once enough of
it is known: the table of R165. `none`: the command byte names no command, or is missing, or it
is STAGE and the count byte is still missing. -/
def partLength : List Byte → Option Nat
  | [] => none
  | c :: rest =>
    if c = 0x01 ∨ c = 0x02 ∨ c = 0x03 ∨ c = 0x08 ∨ c = 0x09 ∨ c = 0x0A then some 2
    else if c = 0x04 ∨ c = 0x05 ∨ c = 0x06 then some 4
    else if c = 0x0B then some 5
    else if c = 0x0C then some 3
    else if c = 0x07 then
      match rest with
      | _ :: n :: _ => if 1 ≤ n.toNat ∧ n.toNat ≤ 8 then some (4 + 2 * n.toNat) else some 4
      | _ => none
    else none

/-- A command byte that names a command: 01h to 0Ch (R179, R180). -/
def namesCommand (c : Byte) : Bool := 1 ≤ c.toNat && c.toNat ≤ 12

/-- The bytes of a command part sum to 5Ah modulo 256 (R166). -/
def byteSum (bs : List Byte) : Byte := bs.foldl (· + ·) 0

/-- The byte that eight bits carry, most significant bit first (R164). -/
def byteOfBits (b7 b6 b5 b4 b3 b2 b1 b0 : Bool) : Byte :=
  BitVec.ofBoolListBE [b7, b6, b5, b4, b3, b2, b1, b0]

/-- The complete bytes that bits sampled from LDI carry; the bits of an incomplete byte are
discarded (R164). -/
def bytesOfBits : List Bool → List Byte
  | b7 :: b6 :: b5 :: b4 :: b3 :: b2 :: b1 :: b0 :: rest =>
    byteOfBits b7 b6 b5 b4 b3 b2 b1 b0 :: bytesOfBits rest
  | _ => []

/-- The bytes begin a command part and do not finish it (R168). -/
def partUnfinished (bs : List Byte) : Bool :=
  match bs with
  | [] => true
  | c :: _ => namesCommand c &&
    (match partLength bs with
     | some n => bs.length < n
     | none => bs.length < 3)

/-- An address phase that the host bus can carry: 1 to 4 words, and a lane set for each word of
a write that is not a single-byte write (R127). -/
def AddressPhase.wf (p : AddressPhase) : Bool :=
  1 ≤ p.count && p.count ≤ 4 && (!p.write || p.singleByte || p.lanes.length == p.count)

/-- The STAGE count says how many words the command part carried: 1 to 8, and with any other
count none (R165). -/
def stageWordsWf (count : Byte) (words : List Word) : Bool :=
  if 1 ≤ count.toNat ∧ count.toNat ≤ 8 then words.length == count.toNat else words.isEmpty

/-- The checks on a command's operands. A command that fails its check is nothing the outside
can send; its meaning has no effect (log entry 17). -/
def Instr.wf : Instr → Bool
  | .hostAddressPhase p => p.wf
  | .stage _ count words => stageWordsWf count words
  | .unknownCommand code => !namesCommand code
  | .badCheckFrame part => partLength part == some part.length && byteSum part != Config.frameSum
  | .lselDeassertion bits => partUnfinished (bytesOfBits bits)
  | _ => true

end Sys2Proof
end

