-- ==== Sys2Proof/Decode.lean ====
section
/-! DEFINITION. The command parts of link frames, read and written (R165, R166, R179, R180), and
the reading of a table word. Only link commands have a byte layout; no row of the opcode table
gives bits. -/

namespace Sys2Proof

/-- A word travels on the link as two bytes, high byte first (13_stored_formats_and_frame_layouts.md). -/
def wordBytes (w : Word) : List Byte := [w.extractLsb' 8 8, w.extractLsb' 0 8]

/-- The word two bytes carry, high byte first. -/
def wordOfBytes (hi lo : Byte) : Word := hi ++ lo

/-- Words as they travel: two bytes each (R165). -/
def wordsBytes : List Word → List Byte
  | [] => []
  | w :: ws => wordBytes w ++ wordsBytes ws

/-- The words that pairs of bytes carry; a last odd byte carries none. -/
def wordsOfBytes : List Byte → List Word
  | hi :: lo :: rest => wordOfBytes hi lo :: wordsOfBytes rest
  | _ => []

/-- The command that a whole command part with a valid sum spells: command byte, argument bytes
in the order of the table of R165, check byte last. -/
def decodeArguments : List Byte → Option Instr
  | [0x01, _] => some .status
  | [0x02, _] => some .nextEvent
  | [0x03, _] => some .abortGroup
  | [0x04, hi, lo, _] => some (.setMask (wordOfBytes hi lo))
  | [0x05, o, n, _] => some (.readLive o n)
  | [0x06, o, n, _] => some (.readStage o n)
  | 0x07 :: o :: n :: rest => some (.stage o n (wordsOfBytes rest.dropLast))
  | [0x08, _] => some .copyLiveToStage
  | [0x09, _] => some .storeAnchor
  | [0x0A, _] => some .format
  | [0x0B, hi, lo, n, _] => some (.readJournal (wordOfBytes hi lo) n)
  | [0x0C, i, _] => some (.scanRegion i)
  | _ => none

/-- What the bytes received since the frame began amount to (R165, R166): `none` while the
command part is unfinished (or ran past its end), UNKNOWN_COMMAND at a command byte that names
no command, BAD_CHECK_FRAME at a check byte with a wrong sum, and otherwise the command taken. -/
def decodePart (bytes : List Byte) : Option Instr :=
  match bytes with
  | [] => none
  | c :: rest =>
    if namesCommand c then
      if partLength bytes = some bytes.length then
        if byteSum bytes = Config.frameSum then decodeArguments bytes
        else some (.badCheckFrame bytes)
      else none
    else if rest = [] then some (.unknownCommand c) else none

/-- What the bits sampled from LDI since the frame began amount to: the command is taken at the
rising edge of LCK that samples the eighth bit of the part's last byte (R164, R166). -/
def decodeBits (bits : List Bool) : Option Instr :=
  if bits.length % 8 = 0 then decodePart (bytesOfBits bits) else none

/-- The bits of a byte as they travel, most significant bit first (R164). -/
def byteBits (b : Byte) : List Bool :=
  [b.getLsbD 7, b.getLsbD 6, b.getLsbD 5, b.getLsbD 4, b.getLsbD 3, b.getLsbD 2, b.getLsbD 1,
    b.getLsbD 0]

/-- The code of a link command (R179); 00h for every other row of the table. -/
def commandCode : Instr → Byte
  | .status => 0x01
  | .nextEvent => 0x02
  | .abortGroup => 0x03
  | .setMask _ => 0x04
  | .readLive _ _ => 0x05
  | .readStage _ _ => 0x06
  | .stage _ _ _ => 0x07
  | .copyLiveToStage => 0x08
  | .storeAnchor => 0x09
  | .format => 0x0A
  | .readJournal _ _ => 0x0B
  | .scanRegion _ => 0x0C
  | _ => 0x00

/-- The argument bytes of a link command (R165). -/
def commandArguments : Instr → List Byte
  | .setMask mask => wordBytes mask
  | .readLive o n => [o, n]
  | .readStage o n => [o, n]
  | .stage o n words => o :: n :: wordsBytes words
  | .readJournal o n => wordBytes o ++ [n]
  | .scanRegion i => [i]
  | _ => []

/-- The byte that makes a part's bytes sum to 5Ah (R166, R167). -/
def checkByte (bytes : List Byte) : Byte := Config.frameSum - byteSum bytes

/-- The command part a link master sends for a link command; nothing for every other row. -/
def encodePart (i : Instr) : List Byte :=
  if namesCommand (commandCode i) then
    let body := commandCode i :: commandArguments i
    body ++ [checkByte body]
  else
    match i with
    | .unknownCommand code => [code]
    | .badCheckFrame part => part
    | _ => []

/-- The link commands: the rows that a frame's bytes spell. -/
def Instr.isLinkPart (i : Instr) : Bool :=
  match i with
  | .unknownCommand _ => true
  | .badCheckFrame _ => true
  | _ => namesCommand (commandCode i)

/-- The command a table word spells. No row of spec/opcode_table.json gives bits, so no word
spells a command. -/
def decodeTableWord (_nbits _w : Nat) : Option Instr := none

end Sys2Proof
end

