-- ==== Sys2Proof/Machine/State.lean ====
section
/-! DEFINITION. The state of the bridge, block by block as the description divides it, with the
values each block has at reset. -/

namespace Sys2Proof.Machine

/-- The static memory: byte addresses strictly rising, no cell equal to what an unlisted address
reads as (`Memory.wf`). -/
abbrev Memory := List Host.Cell

/-- The ten values of the group state (R1). -/
inductive GroupState where
  | recovering
  | unconfigured
  | halted
  | idle
  | opening
  | groupOpen
  | committing
  | rollingBack
  | aborted
  | configuring
  deriving DecidableEq, Repr

/-- The cause a rollback carries (R66, R110). -/
inductive Cause where
  | abortCmd
  | ageLimit
  | recovery
  deriving DecidableEq, Repr

/-- The power condition (R116). -/
inductive PowerCondition where
  | normal
  | draining
  | safe
  deriving DecidableEq, Repr

/-- The levels of the input lines, and the wait straps as last read (00_scope.md "Lines", R147). -/
structure Lines where
  powered : Bool
  rst     : Bool
  grp     : Bool
  pfail   : Bool
  lsel    : Bool
  waits   : BitVec 2
  deriving DecidableEq, Repr

/-- The group controller with its time base (R1, R7 to R9, R17 to R19). -/
structure GroupController where
  state        : GroupState
  closePending : Bool
  openPending  : Bool
  abortPending : Bool
  age          : Nat
  duration     : Nat
  timeRunning  : Bool
  clkCount     : Nat
  divisor      : Word
  deriving DecidableEq, Repr

/-- The two header slots (R22). -/
inductive Slot where
  | a
  | b
  deriving DecidableEq, Repr

/-- A header, with the slot it stands in (R24, R25). -/
structure Header where
  serial    : Word
  group     : Nat
  highWater : Nat
  slot      : Slot
  deriving DecidableEq, Repr

/-- The state of a block in the saved-block set (R32). -/
inductive SavedState where
  | claimed
  | saved
  deriving DecidableEq, Repr

/-- One entry of the saved-block set (R32). -/
structure SavedBlock where
  block : Nat
  state : SavedState
  deriving DecidableEq, Repr

/-- How a posted write was classified (R48). -/
inductive Tag where
  | plain
  | group (number : Nat) (imageOwed : Bool)
  deriving DecidableEq, Repr

/-- A queue entry (R48). -/
structure Entry where
  block : Nat
  first : Nat
  words : List (LaneSet × Word)
  tag   : Tag
  deriving DecidableEq, Repr

/-- The pieces of group work handed to the forward activity (R37, R73, R103, R108, R110). -/
inductive GroupWork where
  | opening
  | commit
  | closeRollback (cause : Cause) (restored : Nat)
  | recoveryRewrite (walkEnd : Nat)
  | closeRecovery (restored : Nat)
  | format
  deriving DecidableEq, Repr

/-- The piece of work the forward activity is doing: the retirement of an entry, with a mark when
an abort has removed it (R41), or group work with its progress (the next offset of a wipe, the
number of the transfer of a format). -/
inductive ForwardWork where
  | retire (entry : Entry) (removed : Bool)
  | groupWork (work : GroupWork) (progress : Nat)
  deriving DecidableEq, Repr

/-- The rollback the backward activity holds (R67). -/
structure Rollback where
  group    : Nat
  cause    : Cause
  total    : Nat
  next     : Nat
  restored : Nat
  deriving DecidableEq, Repr

/-- The backward activity (R67, R103). `walk` keeps its position and the blocks that the images
taken into the run name, oldest first (R105, R109). -/
inductive Backward where
  | idle
  | headerChoice
  | walk (position : Nat) (blocks : List Nat)
  | rollbackDue (group : Nat) (cause : Cause)
  | restoring (rollback : Rollback)
  deriving DecidableEq, Repr

/-- The journal unit (R25, R32, R33, R37, R67). `slotWriting` is the header that a header write
in progress carries. -/
structure Journal where
  header      : Option Header
  slotWriting : Option Header
  saved       : List SavedBlock
  written     : Nat
  reserved    : Nat
  handed      : Option GroupWork
  forward     : Option ForwardWork
  backward    : Backward
  deriving DecidableEq, Repr

/-- The refusal reasons (R134). -/
inductive RefusalReason where
  | outsideGroup
  | journalFull
  | frozen
  | protectedArea
  | badBurst
  | groupAborted
  | unavailable
  | unmapped
  | powerFail
  deriving DecidableEq, Repr

/-- The classification of a write to be posted: its tag, and whether the reservation added the
block to the saved-block set on this access's account (R48, R54). -/
structure Post where
  tag     : Tag
  claimed : Bool
  deriving DecidableEq, Repr

/-- What has become of the access the port carries (R128, R50 to R55, R59, R135 to R137). -/
inductive AccessPhase where
  /-- Refused at classification: every data phase is answered REFUSE. -/
  | refused (reason : RefusalReason)
  /-- Held; `releaseDue` once a moment of release has come (R137). -/
  | held (releaseDue : Bool)
  /-- A write to be posted with every lane set none: ACK, no entry (R51). -/
  | silent
  /-- Waiting for a place in the queue (R53). -/
  | waiting (post : Post)
  /-- Forming its entry (R50). -/
  | forming (post : Post)
  /-- Forming when its group was aborted: ACK, the words are discarded (R55). -/
  | discarding
  /-- A served read waiting on the queue (R59). -/
  | readQueued
  /-- A served read whose transfer waits or is in flight; words that have come back may be answered
  already (R135). -/
  | readRequested
  /-- A served read whose words have come back (R135). -/
  | readDone (words : List Word)
  deriving DecidableEq, Repr

/-- The access the port carries (R127). `lanes` has one lane set for each word. -/
structure Access where
  addr     : BitVec 24
  write    : Bool
  lanes    : List LaneSet
  phase    : AccessPhase
  answered : Nat
  received : List Word
  deriving DecidableEq, Repr

/-- The answer to a data phase; a read's ACK carries its word (R128). -/
inductive Answer where
  | ack (word : Option Word)
  | refuse
  deriving DecidableEq, Repr

/-- The host bus port. `answer` is what the port drives for the data phase taken last; none is
the absence of an answer, which holds the data phase (R128). -/
structure HostPort where
  access : Option Access
  answer : Option Answer
  deriving DecidableEq, Repr

/-- How far the work of CONFIGURING has come (R91). -/
inductive JobStage where
  | waitingQuiet
  | clearingSlots
  | writingAnchor (transfer : Nat)
  | formatting
  deriving DecidableEq, Repr

/-- A store or a format in progress (R91, R93, R97). -/
structure ConfigJob where
  store            : Bool
  formats          : Bool
  fromUnconfigured : Bool
  stage            : JobStage
  deriving DecidableEq, Repr

/-- The anchor unit (R86, R87). `isLive`: an anchor is live, so the live copy is in force. -/
structure AnchorUnit where
  isLive  : Bool
  live    : List Word
  staging : List Word
  job     : Option ConfigJob
  deriving DecidableEq, Repr

/-- What a transfer is made for; each has its completion among the commands (R140). -/
inductive Purpose where
  | anchorLoad
  | slotsRead
  | walkRead
  | imageRead
  | restoreWrite
  | undoneWrite
  | recoveryRewrite
  | recoveryClose
  | wipe
  | wipeHeader
  | openingHeader
  | openRecord
  | blockRead
  | imageWrite
  | dataWrite
  | commitRecord
  | commitHeader
  | rollbackHeader
  | hostRead
  | slotClear
  | anchorWrite
  | format
  | scanRead
  | linkRead
  deriving DecidableEq, Repr

/-- The requesters of the memory port (R140, R142). -/
inductive Requester where
  | backward
  | forward
  | host
  | anchor
  | link
  | scanner
  deriving DecidableEq, Repr

/-- A transfer reads a number of words or writes words in their lanes (R140). -/
inductive TransferBody where
  | read (count : Nat)
  | write (words : List (LaneSet × Word))
  deriving DecidableEq, Repr

/-- One transfer, at ascending word addresses from `addr` (R140). -/
structure Transfer where
  purpose : Purpose
  addr    : Nat
  body    : TransferBody
  deriving DecidableEq, Repr

/-- The waiting requests, at most one of each requester (R141). -/
structure Requests where
  backward : Option Transfer
  forward  : Option Transfer
  host     : Option Transfer
  anchor   : Option Transfer
  link     : Option Transfer
  scanner  : Option Transfer
  deriving DecidableEq, Repr

/-- The memory port. `discard`: the words of the read in flight will be discarded (R141, R156). -/
structure MemoryPort where
  inFlight : Option Transfer
  discard  : Bool
  requests : Requests
  deriving DecidableEq, Repr

/-- The scan in progress, if any (R149). -/
inductive ScanKind where
  | none
  | periodic
  | onRequest
  deriving DecidableEq, Repr

/-- The verification scanner (R149). While the scan is none, the region index, the next word, the words
remaining and the running value are what the last scan left: DESIGN CHOICE, the description gives them
no value then (log entry 22). -/
structure Scanner where
  scan      : ScanKind
  region    : Nat
  next      : Nat
  remaining : Nat
  value     : Word
  count     : Nat
  due       : Bool
  last      : Option Nat
  deriving DecidableEq, Repr

/-- The reason of ANCHOR_INVALID (R88). -/
inductive AnchorFault where
  | mark
  | check
  | range
  deriving DecidableEq, Repr

/-- The cause of JOURNAL_UNREADABLE (R104, R109, R69). -/
inductive UnreadableCause where
  | header
  | image
  deriving DecidableEq, Repr

/-- The eleven kinds of event with their details (R157). -/
inductive Event where
  | anchorInvalid (reason : AnchorFault)
  | journalUnreadable (cause : UnreadableCause) (offset : Nat)
  | recovered (group images : Nat)
  | groupAborted (group : Nat) (cause : Cause) (images : Nat)
  | journalFull (group block : Nat)
  | accessRefused (addr : BitVec 24) (write : Bool) (reason : RefusalReason)
  | scanMismatch (region : Nat) (value : Word)
  | scanDone (region : Nat) (value : Word) (matched : Bool)
  | anchorStored (formatted : Bool)
  | groupCommitted (group images : Nat)
  | linkError (cut badCheck : Nat)
  deriving DecidableEq, Repr

/-- An entry of the pending set (R158). -/
structure PendingEvent where
  event   : Event
  repeats : Nat
  deriving DecidableEq, Repr

/-- The event unit (R158, R161). The pending set is kept in priority order, so that equal sets
are equal lists. -/
structure EventUnit where
  pendingSet : List PendingEvent
  mask       : BitVec 11
  deriving DecidableEq, Repr

/-- The frame on the link: none, one whose command part is awaited, one whose command part has
been answered, or one that is ignored to its end (R164, R175). -/
inductive Frame where
  | none
  | awaiting
  | answered
  | ignored
  deriving DecidableEq, Repr

/-- The outstanding link journal read; `answering` while its frame stands (R168, R174). -/
inductive LinkRead where
  | none
  | outstanding (answering : Bool)
  deriving DecidableEq, Repr

/-- The management link (R164, R167, R169, R174). `fillers`: the filler bytes shifted before the
response. -/
structure Link where
  frame    : Frame
  response : List Byte
  fillers  : Nat
  code     : Byte
  status   : Byte
  reason   : Byte
  read     : LinkRead
  deriving DecidableEq, Repr

/-- The whole bridge with the memory behind it and the commands that wait. `freeCount` and
`pending` are the model's own. -/
structure State where
  lines     : Lines
  group     : GroupController
  journal   : Journal
  queue     : List Entry
  host      : HostPort
  anchor    : AnchorUnit
  port      : MemoryPort
  scanner   : Scanner
  power     : PowerCondition
  events    : EventUnit
  link      : Link
  mem       : Memory
  freeCount : Nat
  pending   : List Instr
  deriving DecidableEq, Repr

/-- No command stops the bridge with a fault, so there is no fault. -/
inductive Fault where
  deriving DecidableEq, Repr

/-- The reasons for which a command is refused by the model. -/
inductive Refusal where
  /-- Raised by `exec` for a command that has no meaning yet. Safe: the model stops. -/
  | notModelled (mnemonic : String)
  deriving DecidableEq, Repr

/-- R1, R21. -/
def GroupController.reset : GroupController :=
  { state := .recovering, closePending := false, openPending := false, abortPending := false,
    age := 0, duration := 0, timeRunning := false, clkCount := 0, divisor := 0 }

/-- R25, R32, R33, R67, R99. -/
def Journal.reset : Journal :=
  { header := none, slotWriting := none, saved := [], written := 0, reserved := 0,
    handed := none, forward := none, backward := .idle }

/-- R127, R99. -/
def HostPort.reset : HostPort := { access := none, answer := none }

/-- R86, R87, R99. -/
def AnchorUnit.reset : AnchorUnit :=
  { isLive := false, live := List.replicate Config.anchorWords 0,
    staging := List.replicate Config.anchorWords 0, job := none }

/-- R145. -/
def Requests.empty : Requests :=
  { backward := none, forward := none, host := none, anchor := none, link := none,
    scanner := none }

/-- R145: the port is free and no request waits. -/
def MemoryPort.reset : MemoryPort :=
  { inFlight := none, discard := false, requests := Requests.empty }

/-- R149. DESIGN CHOICE: the region index, the next word, the words remaining and the running value
are 0 (log entry 22). -/
def Scanner.reset : Scanner :=
  { scan := .none, region := 0, next := 0, remaining := 0, value := 0, count := 0, due := false,
    last := none }

/-- R101, R158. -/
def EventUnit.reset : EventUnit := { pendingSet := [], mask := Config.resetMask }

/-- R169, R175. -/
def Link.reset : Link :=
  { frame := .none, response := [], fillers := 0, code := 0, status := 0, reason := 0,
    read := .none }

/-- The bridge right after power-on with RST, GRP, PFAIL and LSEL deasserted: the group state is
RECOVERING and the first read of the anchor load, the first request made, is in flight (R88, R100,
R102, R145). Log entries 1, 2, 7 and 22 name what the description leaves open here. -/
def State.reset : State :=
  { lines := { powered := true, rst := false, grp := false, pfail := false, lsel := false,
               waits := 0 },
    group := GroupController.reset,
    journal := Journal.reset,
    queue := [],
    host := HostPort.reset,
    anchor := AnchorUnit.reset,
    port := { MemoryPort.reset with
              inFlight := some { purpose := .anchorLoad, addr := 0, body := .read 8 } },
    scanner := Scanner.reset,
    power := .normal,
    events := EventUnit.reset,
    link := Link.reset,
    mem := [],
    freeCount := 0,
    pending := [] }

end Sys2Proof.Machine
end

