-- ==== Sys2Proof/Machine/Memory.lean ====
section
/-! DEFINITION. The static memory: bytes, words in their lanes, and what a transfer does to it
(R140, R146). -/

namespace Sys2Proof.Machine

/-- The byte at an address. -/
def Memory.read : Memory → Nat → Byte
  | [], _ => Config.freshByte
  | (k, b) :: rest, a => if k = a then b else Memory.read rest a

/-- The memory with one byte written, in canonical form. -/
def Memory.put : Memory → Nat → Byte → Memory
  | [], a, b => if b = Config.freshByte then [] else [(a, b)]
  | (k, c) :: rest, a, b =>
    if a < k then (if b = Config.freshByte then (k, c) :: rest else (a, b) :: (k, c) :: rest)
    else if a = k then (if b = Config.freshByte then rest else (a, b) :: rest)
    else (k, c) :: Memory.put rest a b

/-- The canonical form: addresses strictly rising, no cell equal to what an unlisted address
reads as. -/
abbrev Memory.wf (m : Memory) : Prop :=
  m.Pairwise (fun x y => x.1 < y.1) ∧ ∀ c ∈ m, c.2 ≠ Config.freshByte

/-- The word at a word address: the low lane is the byte at the even byte address
(00_scope.md, "byte lane"). -/
def Memory.wordAt (m : Memory) (k : Nat) : Word :=
  wordOfBytes (Memory.read m (2 * k + 1)) (Memory.read m (2 * k))

/-- The lane set holds the low lane. -/
def laneLow : LaneSet → Bool
  | .low => true
  | .both => true
  | _ => false

/-- The lane set holds the high lane. -/
def laneHigh : LaneSet → Bool
  | .high => true
  | .both => true
  | _ => false

/-- The memory with a word written in the lanes of its lane set (R38, R140). -/
def Memory.putWord (m : Memory) (k : Nat) (lanes : LaneSet) (w : Word) : Memory :=
  let m1 := if laneLow lanes then Memory.put m (2 * k) (w.extractLsb' 0 8) else m
  if laneHigh lanes then Memory.put m1 (2 * k + 1) (w.extractLsb' 8 8) else m1

/-- `count` words from word address `k`, ascending (R140). -/
def Memory.words (m : Memory) (k : Nat) : Nat → List Word
  | 0 => []
  | count + 1 => Memory.wordAt m k :: Memory.words m (k + 1) count

/-- The memory with words written from word address `k`, ascending (R140). -/
def Memory.putWords (m : Memory) (k : Nat) : List (LaneSet × Word) → Memory
  | [] => m
  | (lanes, w) :: rest => Memory.putWords (Memory.putWord m k lanes w) (k + 1) rest

/-- A write cut by loss of power: the words before the loss are written, and the word being
written holds `torn` unless its lane set is none (R146; log entry 9). -/
def Memory.putWordsCut (m : Memory) (k : Nat) : Nat → Word → List (LaneSet × Word) → Memory
  | _, _, [] => m
  | 0, torn, (lanes, _) :: _ => if lanes = .none then m else Memory.putWord m k .both torn
  | done + 1, torn, (lanes, w) :: rest =>
    Memory.putWordsCut (Memory.putWord m k lanes w) (k + 1) done torn rest

/-- Words that are written in both lanes, as every write but a queue entry's is (R140). -/
def bothLanes (ws : List Word) : List (LaneSet × Word) := ws.map (fun w => (LaneSet.both, w))

/-- The words a transfer reads. -/
def Transfer.wordsRead (t : Transfer) (m : Memory) : List Word :=
  match t.body with
  | .read count => Memory.words m t.addr count
  | .write _ => []

/-- The memory after a transfer that completes whole (R140). -/
def Transfer.memoryAfter (t : Transfer) (m : Memory) : Memory :=
  match t.body with
  | .read _ => m
  | .write ws => Memory.putWords m t.addr ws

/-- The memory after a transfer that loss of power cuts after `done` whole words (R146). "A cut
read has no effect on memory." -/
def Transfer.memoryCut (t : Transfer) (done : Nat) (torn : Word) (m : Memory) : Memory :=
  match t.body with
  | .read _ => m
  | .write ws => Memory.putWordsCut m t.addr done torn ws

/-- The requester a transfer is made for (the table of R140). Recovery's header writes and the
closing headers are the forward activity's (R73, R103). -/
def Purpose.requester : Purpose → Requester
  | .anchorLoad => .anchor
  | .slotsRead => .backward
  | .walkRead => .backward
  | .imageRead => .backward
  | .restoreWrite => .backward
  | .undoneWrite => .backward
  | .recoveryRewrite => .forward
  | .recoveryClose => .forward
  | .wipe => .forward
  | .wipeHeader => .forward
  | .openingHeader => .forward
  | .openRecord => .forward
  | .blockRead => .forward
  | .imageWrite => .forward
  | .dataWrite => .forward
  | .commitRecord => .forward
  | .commitHeader => .forward
  | .rollbackHeader => .forward
  | .hostRead => .host
  | .slotClear => .anchor
  | .anchorWrite => .anchor
  | .format => .forward
  | .scanRead => .scanner
  | .linkRead => .link

end Sys2Proof.Machine
end

