-- ==== Sys2Proof/Machine/Formats.lean ====
section
/-! DEFINITION. The structures the bridge keeps in memory: the check rule, the anchor block, the
header slots and the journal records (13_stored_formats_and_frame_layouts.md), with the tests
that read them. -/

namespace Sys2Proof.Machine

/-- The sum of words modulo 65536 (R176). -/
def wordSum (ws : List Word) : Word := ws.foldl (· + ·) 0

/-- A structure satisfies the check rule (R176). -/
def checks (ws : List Word) : Bool := wordSum ws == Config.checkSum

/-- The check word for the other words of a structure (R176). -/
def checkWord (ws : List Word) : Word := Config.checkSum - wordSum ws

/-- A structure whose check word stands last. -/
def withCheck (ws : List Word) : List Word := ws ++ [checkWord ws]

/-- A number in a word. -/
abbrev wordOf (n : Nat) : Word := BitVec.ofNat 16 n

/-- Word k of a structure. -/
def wordAtIndex (ws : List Word) (k : Nat) : Word := ws.getD k 0

/-! The anchor block (R80, R177). -/

abbrev anchorTop (a : List Word) : Nat := (wordAtIndex a 1).toNat
abbrev anchorBase (a : List Word) : Nat := (wordAtIndex a 2).toNat
abbrev anchorLength (a : List Word) : Nat := (wordAtIndex a 3).toNat
abbrev anchorDefault (a : List Word) : Word := wordAtIndex a 4
abbrev anchorMask (a : List Word) : Word := wordAtIndex a 5
abbrev anchorDivisor (a : List Word) : Word := wordAtIndex a 6
abbrev anchorAgeLimit (a : List Word) : Nat := (wordAtIndex a 7).toNat
abbrev anchorScanInterval (a : List Word) : Nat := (wordAtIndex a 8).toNat

abbrev regionFirst (a : List Word) (i : Nat) : Nat := (wordAtIndex a (10 + 4 * i)).toNat
abbrev regionLast (a : List Word) (i : Nat) : Nat := (wordAtIndex a (11 + 4 * i)).toNat
abbrev regionAttrWord (a : List Word) (i : Nat) : Word := wordAtIndex a (12 + 4 * i)
abbrev regionExpected (a : List Word) (i : Nat) : Word := wordAtIndex a (13 + 4 * i)

/-- The attributes of regions (R82). -/
inductive Attr where
  | none
  | pass
  | journal
  | strict
  | frozen
  deriving DecidableEq, Repr

/-- The attribute codes (R177). A code beyond 4 stands in no live copy (R81 test 9). -/
def attrOfCode : Nat → Attr
  | 1 => .pass
  | 2 => .journal
  | 3 => .strict
  | 4 => .frozen
  | _ => .none

/-- The attribute of region i: bits 3 to 0 of its attribute word (R177). -/
def regionAttr (a : List Word) (i : Nat) : Attr := attrOfCode ((regionAttrWord a i).toNat % 16)

/-- The scan flag of region i: bit 15 of its attribute word (R177). -/
def regionScanFlag (a : List Word) (i : Nat) : Bool := (regionAttrWord a i).getLsbD 15

/-- The words of the journal area, L = 512 n (R22). -/
def journalWords (a : List Word) : Nat := 512 * anchorLength a

/-- The image capacity 64 n - 2 (R23). -/
def imageCapacity (a : List Word) : Nat := 64 * anchorLength a - 2

/-- The memory word at a journal offset (R22). -/
def journalWord (a : List Word) (offset : Nat) : Nat := anchorBase a * 512 + offset

/-- The granule of a block: 128 blocks to a granule (00_scope.md, "granule"). -/
def granuleOf (block : Nat) : Nat := block / 128

/-- Blocks 0 to 10 hold anchor words 0 to 41 (R83). -/
def inAnchorArea (block : Nat) : Bool := block ≤ 10

/-- The block lies in the journal area (R83). -/
def inJournalArea (a : List Word) (block : Nat) : Bool :=
  anchorBase a ≤ granuleOf block && granuleOf block < anchorBase a + anchorLength a

/-- The reasons of INVALID (R90, R154, R167, R179). -/
inductive InvalidReason where
  | top
  | journalSize
  | journalPlace
  | defaultAttr
  | mask
  | divisor
  | regionAttr
  | regionRange
  | scanFlag
  | regionIndex
  | regionUnused
  | range
  | noJournal
  deriving DecidableEq, Repr

/-- R179. -/
def InvalidReason.code : InvalidReason → Byte
  | .top => 0x01
  | .journalSize => 0x02
  | .journalPlace => 0x03
  | .defaultAttr => 0x04
  | .mask => 0x05
  | .divisor => 0x06
  | .regionAttr => 0x07
  | .regionRange => 0x08
  | .scanFlag => 0x09
  | .regionIndex => 0x0A
  | .regionUnused => 0x0B
  | .range => 0x0C
  | .noJournal => 0x0D

/-- Test 5 of R81: the whole journal area lies between granule 1 and the memory top. -/
def journalPlaceOk (a : List Word) : Bool :=
  1 ≤ anchorBase a && anchorBase a + anchorLength a - 1 ≤ anchorTop a

/-- Test 9 of R81 for one entry: one of the five codes and, apart from the scan flag, nothing else. -/
def regionAttrOk (a : List Word) (i : Nat) : Bool := (regionAttrWord a i).toNat % 32768 ≤ 4

/-- Test 10 of R81 for one entry. -/
def regionRangeOk (a : List Word) (i : Nat) : Bool :=
  regionAttr a i == .none ||
    (regionFirst a i ≤ regionLast a i && regionLast a i ≤ anchorTop a)

/-- Test 11 of R81 for one entry. -/
def scanFlagOk (a : List Word) (i : Nat) : Bool := regionAttr a i == .frozen || !regionScanFlag a i

/-- All eight entries pass. -/
def allRegions (ok : Nat → Bool) : Bool := (List.range 8).all ok

/-- The first of tests 3 to 11 of R81 that the words fail, by its reason of R90. `placeOk` is
test 5, which a store may make stricter (R90). -/
def failingTest (a : List Word) (placeOk : Bool) : Option InvalidReason :=
  if !(1 ≤ anchorTop a && anchorTop a ≤ 16383) then some .top
  else if !(1 ≤ anchorLength a && anchorLength a ≤ 64) then some .journalSize
  else if !placeOk then some .journalPlace
  else if !(anchorDefault a == 0 || anchorDefault a == 1) then some .defaultAttr
  else if !((anchorMask a).toNat < 2048) then some .mask
  else if anchorDivisor a == 0 then some .divisor
  else if !allRegions (regionAttrOk a) then some .regionAttr
  else if !allRegions (regionRangeOk a) then some .regionRange
  else if !allRegions (scanFlagOk a) then some .scanFlag
  else none

/-- The anchor test of R81, with the reasons of R88; none when every test passes. -/
def anchorFault (a : List Word) : Option AnchorFault :=
  if wordAtIndex a 0 != Config.formatMark then some .mark
  else if !checks a then some .check
  else if (failingTest a (journalPlaceOk a)).isSome then some .range
  else none

/-- The validation of STORE_ANCHOR (R90). `hasOld`: the store is taken in IDLE or HALTED, where
the new journal base may not lie inside the old journal area above its base. -/
def storeFault (staging live : List Word) (hasOld : Bool) : Option InvalidReason :=
  let inside := anchorBase staging != anchorBase live &&
    anchorBase live < anchorBase staging &&
    anchorBase staging ≤ anchorBase live + anchorLength live - 1
  failingTest staging (journalPlaceOk staging && !(hasOld && inside))

/-- The staging copy with the format mark and the check word a store fills in (R92). -/
def completedAnchor (a : List Word) : List Word :=
  let marked := a.set 0 Config.formatMark
  marked.set 9 (checkWord (marked.set 9 0))

/-- The initial event mask as the event unit takes it (R88, R94). -/
def maskOf (w : Word) : BitVec 11 := w.setWidth 11

/-- What the region lookup gives (R84). -/
inductive Lookup where
  | unmapped
  | anchorArea
  | journalArea
  | region (attr : Attr) (index : Option Nat)
  deriving DecidableEq, Repr

/-- The entry takes part in the lookup and covers the granule (R82, R84 step 4). -/
def regionCovers (a : List Word) (granule i : Nat) : Bool :=
  regionAttr a i != .none && regionFirst a i ≤ granule && granule ≤ regionLast a i

/-- The region lookup under a live anchor (R84). -/
def lookupLive (a : List Word) (block : Nat) : Lookup :=
  if anchorTop a < granuleOf block then .unmapped
  else if inAnchorArea block then .anchorArea
  else if inJournalArea a block then .journalArea
  else match (List.range 8).find? (regionCovers a (granuleOf block)) with
    | some i => .region (regionAttr a i) (some i)
    | none => if anchorDefault a == 1 then .region .pass none else .unmapped

/-- The built-in table of the unconfigured part (R85). -/
def lookupBuiltIn (block : Nat) : Lookup :=
  if inAnchorArea block then .anchorArea else .region .pass none

/-- An image may name this block (R69, R109). -/
def imageBlockAllowed (a : List Word) (block : Nat) : Bool :=
  granuleOf block ≤ anchorTop a && !inAnchorArea block && !inJournalArea a block

/-- The entry is visited by the periodic scan (R82, R152). -/
def periodicEligible (a : List Word) (i : Nat) : Bool :=
  regionAttr a i == .frozen && regionScanFlag a i

/-- The circular search of R152: from the entry after the last periodic region, or from entry 0,
up to and with the last periodic region itself. -/
def nextPeriodic (a : List Word) (last : Option Nat) : Option Nat :=
  let start := match last with
    | some i => i + 1
    | none => 0
  ((List.range 8).map (fun k => (start + k) % 8)).find? (periodicEligible a)

/-! Header slots (R24, R178). -/

/-- The slot that is not this one (R26). -/
def Slot.other : Slot → Slot
  | .a => .b
  | .b => .a

/-- The journal offset of a slot (R22). -/
def Slot.offset : Slot → Nat
  | .a => 0
  | .b => 4

/-- The words of a header slot (R178). -/
def Header.words (h : Header) : List Word :=
  withCheck [h.serial, wordOf h.group, wordOf h.highWater]

/-- The header that follows a header: the other slot, the next serial (R26). -/
def Header.next (h : Header) (group highWater : Nat) : Header :=
  { serial := h.serial + 1, group := group, highWater := highWater, slot := h.slot.other }

/-- The header in the four words of a slot, if it is valid (R24, R176). -/
def slotHeader (slot : Slot) (len : Nat) (ws : List Word) : Option Header :=
  let group := (wordAtIndex ws 1).toNat
  let highWater := (wordAtIndex ws 2).toNat
  if ws.length == 4 && checks ws && group ≤ 4095 && 8 ≤ highWater && highWater ≤ len then
    some { serial := wordAtIndex ws 0, group := group, highWater := highWater, slot := slot }
  else none

/-- Serial a is newer than serial b (R24). -/
def newerSerial (a b : Word) : Bool := 1 ≤ (a - b).toNat && (a - b).toNat ≤ 32767

/-- The newest valid slot of the eight words at offsets 0 to 7 (R24, R104). -/
def newestHeader (len : Nat) (ws : List Word) : Option Header :=
  match slotHeader .a len (ws.take 4), slotHeader .b len (ws.drop 4) with
  | some a, none => some a
  | none, some b => some b
  | some a, some b => if newerSerial b.serial a.serial then some b else some a
  | none, none => none

/-! Records (R27 to R30, R72, R178). -/

/-- The record kinds (R27). -/
inductive RecordKind where
  | opened
  | image
  | commit
  | undone
  deriving DecidableEq, Repr

/-- R178. -/
def RecordKind.code : RecordKind → Nat
  | .opened => 1
  | .image => 2
  | .commit => 3
  | .undone => 4

/-- The kind of a record's first word; codes 0 and 5 to 15 are invalid (R178). -/
def recordKind (w : Word) : Option RecordKind :=
  match w.toNat / 4096 with
  | 1 => some .opened
  | 2 => some .image
  | 3 => some .commit
  | 4 => some .undone
  | _ => none

/-- The group number of a record's first word (R178). -/
def recordGroup (w : Word) : Nat := w.toNat % 4096

/-- Words of a record by its kind (R27). -/
def RecordKind.length : RecordKind → Nat
  | .image => 8
  | _ => 4

/-- The first word of a record (R178). -/
def recordHead (kind : RecordKind) (group : Nat) : Word := wordOf (kind.code * 4096 + group)

/-- R28. -/
def openRecordWords (group ageLimit capacity : Nat) : List Word :=
  withCheck [recordHead .opened group, wordOf ageLimit, wordOf capacity]

/-- R29. -/
def imageRecordWords (group block : Nat) (old : List Word) : List Word :=
  withCheck ([recordHead .image group, wordOf (block / 65536), wordOf (block % 65536)] ++ old)

/-- R30. -/
def commitRecordWords (group written duration : Nat) : List Word :=
  withCheck [recordHead .commit group, wordOf written, wordOf duration]

/-- The cause codes (R178). -/
def Cause.code : Cause → Nat
  | .abortCmd => 1
  | .ageLimit => 2
  | .recovery => 3

/-- R72. -/
def undoneRecordWords (group restored : Nat) (cause : Cause) : List Word :=
  withCheck [recordHead .undone group, wordOf restored, wordOf cause.code]

/-- The block an IMAGE record names: bits 4 to 0 of word 1 above word 2; bits that the layout
marks as zero are ignored (R176, R178). -/
def imageRecordBlock (ws : List Word) : Nat :=
  (wordAtIndex ws 1).toNat % 32 * 65536 + (wordAtIndex ws 2).toNat

/-- The old words of an IMAGE record (R178). -/
def imageRecordOld (ws : List Word) : List Word := (ws.drop 3).take 4

/-- The offset of IMAGE record number k, counting from 0; also of the closing record of a group
of k images (R27). -/
def imageOffset (k : Nat) : Nat := 12 + 8 * k

/-- The record that begins the words read at a walk position, taken into the run when all the
tests of R106 hold: kind and group, fit, check rule, place in the run, and the count of a
closing record. `images` is the number of IMAGE records already taken. -/
def walkRecord (len group position images : Nat) (ws : List Word) : Option RecordKind :=
  match recordKind (wordAtIndex ws 0) with
  | none => none
  | some kind =>
    let record := ws.take kind.length
    let place : Bool := if position = 8 then kind == .opened else kind != .opened
    let count : Bool := match kind with
      | .commit => (wordAtIndex ws 1).toNat == images
      | .undone => (wordAtIndex ws 1).toNat == images
      | _ => true
    if recordGroup (wordAtIndex ws 0) == group && position + kind.length ≤ len &&
        record.length == kind.length && checks record && place && count then some kind
    else none

/-- The tests of R69 on an IMAGE record that a rollback has read. -/
def imageRecordOk (a : List Word) (group : Nat) (ws : List Word) : Bool :=
  recordKind (wordAtIndex ws 0) == some .image && recordGroup (wordAtIndex ws 0) == group &&
    ws.length == 8 && checks ws && imageBlockAllowed a (imageRecordBlock ws)

/-- The index of the first image of a run that names a forbidden block (R109). -/
def firstForbidden (a : List Word) (blocks : List Nat) : Option Nat :=
  blocks.findIdx? (fun b => !imageBlockAllowed a b)

/-- One word folded into the running scan value: rotate left by one, then add (R150). -/
def foldScan (value : Word) (w : Word) : Word := value.rotateLeft 1 + w

end Sys2Proof.Machine
end

