-- ==== Sys2Proof/Machine/Operands.lean ====
section
/-! DEFINITION. What the host bus port derives from an address phase (R127, R129), and the
classification table (R131, R132). -/

namespace Sys2Proof.Machine

/-- The lane sets of the words of an access (R127): the one lane of a single-byte write, the
stated lane sets of any other write, whole words for a read. -/
def AddressPhase.laneSets (p : AddressPhase) : List LaneSet :=
  if p.write then
    if p.singleByte then [if p.addr.getLsbD 0 then LaneSet.high else LaneSet.low] else p.lanes
  else List.replicate p.count LaneSet.both

/-- The access an address phase begins, before it is classified (R127). -/
def AddressPhase.access (p : AddressPhase) : Access :=
  { addr := p.addr, write := p.write, lanes := AddressPhase.laneSets p, phase := .held false,
    answered := 0, received := [] }

/-- Words of the access. -/
abbrev Access.count (a : Access) : Nat := a.lanes.length

/-- The memory word address: host address divided by 2 (R127). -/
abbrev Access.wordAddr (a : Access) : Nat := a.addr.toNat / 2

/-- The block index: host address divided by 8 (R127). -/
abbrev Access.block (a : Access) : Nat := a.addr.toNat / 8

/-- The first word offset: word address modulo 4 (R127). -/
abbrev Access.first (a : Access) : Nat := Access.wordAddr a % 4

/-- The words would cross a block boundary (R129). -/
def Access.crosses (a : Access) : Bool := 4 < Access.first a + Access.count a

/-- Every word has the lane set none (R51). -/
def Access.allNone (a : Access) : Bool := a.write && a.lanes.all (· == .none)

/-- The outcomes of classification before the queue and the journal unit are asked (R130). -/
inductive Verdict where
  | refuse (reason : RefusalReason)
  | hold
  | serve
  | postPlain
  | postGroup
  deriving DecidableEq, Repr

/-- Reads of JOURNAL and STRICT regions (R131, R112). -/
def journaledRead : GroupState → Verdict
  | .rollingBack => .hold
  | .configuring => .hold
  | .recovering => .hold
  | .halted => .refuse .unavailable
  | .idle => .serve
  | .opening => .serve
  | .groupOpen => .serve
  | .committing => .serve
  | .aborted => .serve
  | .unconfigured => .serve

/-- Writes of JOURNAL (`strict` false) and STRICT regions (R131, R112). -/
def journaledWrite (strict : Bool) : GroupState → Verdict
  | .idle => if strict then .refuse .outsideGroup else .postPlain
  | .groupOpen => .postGroup
  | .aborted => .refuse .groupAborted
  | .halted => .refuse .unavailable
  | .unconfigured => .postPlain
  | .opening => .hold
  | .committing => .hold
  | .rollingBack => .hold
  | .configuring => .hold
  | .recovering => .hold

/-- The classification table of R131 for states in which step 3 of R130 has not held the access.
No lookup gives the attribute NONE (R84). -/
def tableVerdict (state : GroupState) (attr : Attr) (write : Bool) : Verdict :=
  match attr, write with
  | .pass, false => .serve
  | .pass, true => .postPlain
  | .frozen, false => .serve
  | .frozen, true => .refuse .frozen
  | .journal, false => journaledRead state
  | .strict, false => journaledRead state
  | .journal, true => journaledWrite false state
  | .strict, true => journaledWrite true state
  | .none, _ => .refuse .unmapped

/-- What a lookup result decides (R131, R132). -/
def lookupVerdict (state : GroupState) (l : Lookup) (write : Bool) : Verdict :=
  match l with
  | .unmapped => .refuse .unmapped
  | .anchorArea => if write then .refuse .protectedArea else .serve
  | .journalArea => .refuse .protectedArea
  | .region attr _ => tableVerdict state attr write

/-- The lookup result is a JOURNAL or STRICT region (R61, R75). -/
def Lookup.journaled : Lookup → Bool
  | .region .journal _ => true
  | .region .strict _ => true
  | _ => false

/-- The tag is GROUP (R48). -/
def Tag.isGroup : Tag → Bool
  | .group _ _ => true
  | .plain => false

/-- The entry owes an image (R48). -/
def Tag.owesImage : Tag → Bool
  | .group _ owed => owed
  | .plain => false

/-- The group number of a tag; 0 for PLAIN. -/
def Tag.number : Tag → Nat
  | .group n _ => n
  | .plain => 0

end Sys2Proof.Machine
end

