-- ==== Sys2Proof/Machine/Flags.lean ====
section
/-! DEFINITION. Conditions and output lines that follow from the state: lines, quiet queue,
urgency, pending memory work, the STATUS picture. -/

namespace Sys2Proof.Machine

/-- The bridge is powered and RST is deasserted: it takes happenings (R100). -/
def State.running (s : State) : Bool := s.lines.powered && !s.lines.rst

/-- The group number STATUS reports: the current header's, or 0 (R1, R25). -/
def State.groupNumber (s : State) : Nat :=
  match s.journal.header with
  | some h => h.group
  | none => 0

/-- The image capacity, 0 while no anchor is live (R23; log entry 16). -/
def State.capacity (s : State) : Nat :=
  if s.anchor.isLive then imageCapacity s.anchor.live else 0

/-- The group age limit of the live anchor (R19, R86). -/
abbrev State.ageLimit (s : State) : Nat := anchorAgeLimit s.anchor.live

/-- The region lookup in force (R84, R85). -/
def State.lookup (s : State) (block : Nat) : Lookup :=
  if s.anchor.isLive then lookupLive s.anchor.live block else lookupBuiltIn block

/-- The code of a group state in STATUS (R179). -/
def GroupState.code : GroupState → Byte
  | .recovering => 0x01
  | .unconfigured => 0x02
  | .halted => 0x03
  | .idle => 0x04
  | .opening => 0x05
  | .groupOpen => 0x06
  | .committing => 0x07
  | .rollingBack => 0x08
  | .aborted => 0x09
  | .configuring => 0x0A

/-- FAIL is asserted exactly in RECOVERING, UNCONFIGURED and HALTED (R2). -/
def GroupState.fails : GroupState → Bool
  | .recovering => true
  | .unconfigured => true
  | .halted => true
  | _ => false

/-- The level of FAIL (R2). -/
def State.failLine (s : State) : Bool := s.lines.powered && GroupState.fails s.group.state

/-- The level of SAFE (R116). -/
def State.safeLine (s : State) : Bool := s.power == .safe

/-- The priority of an event's kind, which is its code (R157, R179). -/
def Event.priority : Event → Nat
  | .anchorInvalid _ => 1
  | .journalUnreadable _ _ => 2
  | .recovered _ _ => 3
  | .groupAborted _ _ _ => 4
  | .journalFull _ _ => 5
  | .accessRefused _ _ _ => 6
  | .scanMismatch _ _ => 7
  | .scanDone _ _ _ => 8
  | .anchorStored _ => 9
  | .groupCommitted _ _ => 10
  | .linkError _ _ => 11

/-- The mask enables the kind of an event: bit k - 1 for priority k (R161, R177). -/
def maskEnables (mask : BitVec 11) (e : Event) : Bool := mask.getLsbD (Event.priority e - 1)

/-- The level of INT (R162). -/
def State.intLine (s : State) : Bool :=
  s.events.pendingSet.any (fun p => maskEnables s.events.mask p.event)

/-- The access is forming: from its classification until its last data phase (R50, R55; log
entry 14). -/
def AccessPhase.isForming : AccessPhase → Bool
  | .forming _ => true
  | .discarding => true
  | _ => false

/-- The access waits for a place (R53). -/
def AccessPhase.isWaiting : AccessPhase → Bool
  | .waiting _ => true
  | _ => false

/-- The access is a served read whose transfer has not completed (R117). -/
def AccessPhase.readPending : AccessPhase → Bool
  | .readQueued => true
  | .readRequested => true
  | _ => false

/-- The access is a group write that is forming or waiting for a place (R12, R30). -/
def AccessPhase.groupWritePending : AccessPhase → Bool
  | .forming p => Tag.isGroup p.tag
  | .waiting p => Tag.isGroup p.tag
  | _ => false

/-- The access carried, if any, satisfies a test of its phase. -/
def State.accessIs (s : State) (test : AccessPhase → Bool) : Bool :=
  match s.host.access with
  | some a => test a.phase
  | none => false

/-- The posting queue is quiet (R62). -/
def State.quiet (s : State) : Bool :=
  s.queue.isEmpty && !s.accessIs AccessPhase.isForming && !s.accessIs AccessPhase.isWaiting

/-- Some entry of the queue names the block (R59). -/
def State.queueNames (s : State) (block : Nat) : Bool := s.queue.any (fun e => e.block == block)

/-- A read waits on the queue for a block that an entry names (R60, R143). -/
def State.readWaits (s : State) : Bool :=
  match s.host.access with
  | some a => a.phase == .readQueued && s.queueNames (Access.block a)
  | none => false

/-- The forward activity is urgent (R60, R143). -/
def State.urgent (s : State) : Bool :=
  s.queue.length == Config.queuePlaces || s.readWaits || s.group.state == .committing ||
    (s.anchor.job.isSome && !s.quiet) || s.power == .draining

/-- Some request waits. -/
def Requests.some (r : Requests) : Bool :=
  r.backward.isSome || r.forward.isSome || r.host.isSome || r.anchor.isSome || r.link.isSome ||
    r.scanner.isSome

/-- The states whose end takes memory work of their own (R117). RECOVERING counts while RST is
deasserted. -/
def State.stateWorks (s : State) : Bool :=
  match s.group.state with
  | .opening => true
  | .committing => true
  | .rollingBack => true
  | .configuring => true
  | .recovering => !s.lines.rst
  | _ => false

/-- Memory work is pending (R117). -/
def State.workPending (s : State) : Bool :=
  s.port.inFlight.isSome || Requests.some s.port.requests || !s.quiet || s.stateWorks ||
    s.accessIs AccessPhase.readPending

/-- The group states in which the scanner works (R149). -/
def GroupState.scannerWorks : GroupState → Bool
  | .idle => true
  | .opening => true
  | .groupOpen => true
  | .committing => true
  | .rollingBack => true
  | .aborted => true
  | _ => false

/-- A word of an event's detail or of STATUS. -/
def numberBytes (n : Nat) : List Byte := wordBytes (wordOf n)

/-- 1 for yes, 0 for no. -/
def flagNat (b : Bool) : Nat := if b then 1 else 0

/-- The refusal reason codes (R179). -/
def RefusalReason.code : RefusalReason → Nat
  | .outsideGroup => 1
  | .journalFull => 2
  | .frozen => 3
  | .protectedArea => 4
  | .badBurst => 5
  | .groupAborted => 6
  | .unavailable => 7
  | .unmapped => 8
  | .powerFail => 9

/-- R179. -/
def AnchorFault.code : AnchorFault → Nat
  | .mark => 1
  | .check => 2
  | .range => 3

/-- R179. -/
def UnreadableCause.code : UnreadableCause → Nat
  | .header => 1
  | .image => 2

/-- The three detail words of an event (the table of R179). -/
def Event.detail : Event → List Nat
  | .anchorInvalid reason => [AnchorFault.code reason, 0, 0]
  | .journalUnreadable cause offset => [UnreadableCause.code cause, offset, 0]
  | .recovered group images => [group, images, 0]
  | .groupAborted group cause images => [group, Cause.code cause, images]
  | .journalFull group block => [group, block / 65536, block % 65536]
  | .accessRefused addr write reason =>
    [addr.toNat / 65536 + 256 * flagNat write, addr.toNat % 65536, RefusalReason.code reason]
  | .scanMismatch region value => [region, value.toNat, 0]
  | .scanDone region value matched => [region, value.toNat, flagNat matched]
  | .anchorStored formatted => [flagNat formatted, 0, 0]
  | .groupCommitted group images => [group, images, 0]
  | .linkError cut badCheck => [cut, badCheck, 0]

/-- The event record of NEXT_EVENT, 8 bytes (R179). -/
def PendingEvent.record (p : PendingEvent) : List Byte :=
  BitVec.ofNat 8 (Event.priority p.event) :: BitVec.ofNat 8 p.repeats ::
    (Event.detail p.event).flatMap numberBytes

/-- The pending kinds bitmap: bit k - 1 for priority k, whatever the mask (R158, R179). -/
def kindsBitmap : List PendingEvent → Word
  | [] => 0
  | p :: rest => (1#16 <<< (Event.priority p.event - 1)) ||| kindsBitmap rest

/-- R179. -/
def PowerCondition.code : PowerCondition → Byte
  | .normal => 0x00
  | .draining => 0x01
  | .safe => 0x02

/-- The STATUS record, 17 bytes (R171, R179). -/
def State.statusRecord (s : State) : List Byte :=
  [GroupState.code s.group.state] ++ numberBytes s.groupNumber ++
    numberBytes s.journal.written ++ numberBytes s.journal.reserved ++ numberBytes s.capacity ++
    [BitVec.ofNat 8 s.queue.length, PowerCondition.code s.power] ++
    wordBytes (kindsBitmap s.events.pendingSet) ++
    [BitVec.ofNat 8 (flagNat s.intLine + 2 * flagNat s.failLine + 4 * flagNat s.safeLine),
     s.link.code, s.link.status, s.link.reason]

/-- The byte LDO shifts in byte period k after the command part: 00h while a READ_JOURNAL waits, and
once its answer has come the filler already shifted, the response part, then FFh; FFh before that,
under RST and in an ignored frame (R164, R167, R175). -/
def State.ldoByte (s : State) (k : Nat) : Byte :=
  if s.link.frame == .answered then
    if s.link.response.isEmpty || k < s.link.fillers then 0x00
    else s.link.response.getD (k - s.link.fillers) 0xFF
  else 0xFF

/-- LDO is driven while LSEL is asserted and is high-impedance otherwise (R164, R175). -/
def State.ldoDriven (s : State) : Bool := s.lines.powered && s.lines.lsel

/-- The level of LDO after falling edge n of LCK, counted from the end of the command part: bits leave
most significant first. None: high impedance (R164). -/
def State.ldo (s : State) (n : Nat) : Option Bool :=
  if s.ldoDriven then some ((s.ldoByte (n / 8)).getLsbD (7 - n % 8)) else none

/-- The levels on the memory lines while one word is read or written (00_scope.md "Lines"). -/
structure MemoryLines where
  address      : Nat
  chipEnable   : Bool
  outputEnable : Bool
  writeLow     : Bool
  writeHigh    : Bool
  deriving DecidableEq, Repr

/-- The memory control lines inactive (R145). -/
def MemoryLines.inactive : MemoryLines :=
  { address := 0, chipEnable := false, outputEnable := false, writeLow := false,
    writeHigh := false }

/-- The memory lines while word k of the transfer in flight is read or written: a write enables the
lanes of the word's lane set, a read the output (R38, R140). With no transfer in flight, and so under
RST and without power, the control lines are inactive (R145; log entry 30). -/
def State.memoryLines (s : State) (k : Nat) : MemoryLines :=
  match s.port.inFlight with
  | none => .inactive
  | some t =>
    match t.body with
    | .read count =>
      if k < count then
        { MemoryLines.inactive with
          address := t.addr + k, chipEnable := true, outputEnable := true }
      else .inactive
    | .write words =>
      match words[k]? with
      | none => .inactive
      | some (lanes, _) =>
        { MemoryLines.inactive with
          address := t.addr + k
          chipEnable := laneLow lanes || laneHigh lanes
          writeLow := laneLow lanes
          writeHigh := laneHigh lanes }

end Sys2Proof.Machine
end

