-- ==== Sys2Proof/Machine/Ops.lean ====
section
/-! DEFINITION. The operations the meanings share: raising events, requests and grants, changes of
the group state, the abort, headers, scans, answers on the link, completions of transfers, and the
close of a moment. -/

namespace Sys2Proof.Machine

/-! Events (R159). -/

/-- An occurrence added to an entry of its kind: the detail is kept, but LINK_ERROR counts on in
both fields, each up to FFFFh (R159). -/
def Event.combine (standing occurrence : Event) : Event :=
  match standing, occurrence with
  | .linkError c b, .linkError c' b' => .linkError (min 65535 (c + c')) (min 65535 (b + b'))
  | e, _ => e

/-- The pending set after an event is raised (R159). -/
def raiseIn (e : Event) : List PendingEvent → List PendingEvent
  | [] => [{ event := e, repeats := 0 }]
  | p :: rest =>
    if Event.priority e < Event.priority p.event then { event := e, repeats := 0 } :: p :: rest
    else if Event.priority e = Event.priority p.event then
      { event := Event.combine p.event e, repeats := min 255 (p.repeats + 1) } :: rest
    else p :: raiseIn e rest

/-- Raise an event (R159). -/
def State.raise (e : Event) (s : State) : State :=
  { s with events.pendingSet := raiseIn e s.events.pendingSet }

/-! Requests and grants (R141, R142). -/

/-- The waiting request of a requester. -/
def Requests.get (r : Requests) : Requester → Option Transfer
  | .backward => r.backward
  | .forward => r.forward
  | .host => r.host
  | .anchor => r.anchor
  | .link => r.link
  | .scanner => r.scanner

/-- The waiting requests with one requester's set. -/
def Requests.put (r : Requests) (q : Requester) (t : Option Transfer) : Requests :=
  match q with
  | .backward => { r with backward := t }
  | .forward => { r with forward := t }
  | .host => { r with host := t }
  | .anchor => { r with anchor := t }
  | .link => { r with link := t }
  | .scanner => { r with scanner := t }

/-- The grant order (R142): the forward activity stands second when urgent, fourth when not. -/
def grantOrder (urgent : Bool) : List Requester :=
  if urgent then [.backward, .forward, .host, .anchor, .link, .scanner]
  else [.backward, .host, .forward, .anchor, .link, .scanner]

/-- The requester the arbiter chooses (R142). -/
def State.nextGrant (s : State) : Option Requester :=
  (grantOrder s.urgent).find? (fun q => (Requests.get s.port.requests q).isSome)

/-- A rollback is due and its first request still to come: from the abort on every other requester
waits for it (R67, R70). -/
def State.rollbackDue (s : State) : Bool :=
  match s.journal.backward with
  | .rollbackDue _ _ => true
  | _ => false

/-- The port takes no other transfer: one is in flight, or a rollback is due (R70, R140). -/
def State.portClosed (s : State) : Bool := s.port.inFlight.isSome || s.rollbackDue

/-- The grant and the start of the transfer are one happening (R142). -/
def State.grant (s : State) : State :=
  if s.portClosed then s
  else
    match s.nextGrant with
    | none => s
    | some q =>
      { s with
        port.inFlight := Requests.get s.port.requests q
        port.discard := false
        port.requests := Requests.put s.port.requests q none }

/-- A requester asks for a transfer. It is granted at once when the port is free, no other request
waits and no rollback is due, and otherwise waits (R70, R142). -/
def State.request (t : Transfer) (s : State) : State :=
  if !s.portClosed && !Requests.some s.port.requests then
    { s with port.inFlight := some t, port.discard := false }
  else
    { s with port.requests := Requests.put s.port.requests (Purpose.requester t.purpose) (some t) }

/-- The transfer in flight is made for this requester. -/
def State.inFlightFor (s : State) (q : Requester) : Bool :=
  match s.port.inFlight with
  | some t => Purpose.requester t.purpose == q
  | none => false

/-- The transfer in flight has this purpose. -/
def State.inFlightIs (s : State) (p : Purpose) : Bool :=
  match s.port.inFlight with
  | some t => t.purpose == p
  | none => false

/-- Withdraw a requester's waiting request (R141). -/
def State.withdraw (q : Requester) (s : State) : State :=
  { s with port.requests := Requests.put s.port.requests q none }

/-! Changes of the group state (R1, R6, R10, R137). -/

/-- A moment of release has come for a held access (R137). -/
def AccessPhase.markRelease : AccessPhase → AccessPhase
  | .held _ => .held true
  | p => p

/-- A moment of release has come (R137). -/
def State.markRelease (s : State) : State :=
  { s with host.access := s.host.access.map (fun a => { a with phase := a.phase.markRelease }) }

/-- The group state changes; a held access may be released (R137). -/
def State.enter (g : GroupState) (s : State) : State :=
  State.markRelease { s with group.state := g }

/-- Entry to OPENING (R10). -/
def State.enterOpening (s : State) : State :=
  State.enter .opening
    { s with
      journal.saved := []
      journal.written := 0
      journal.reserved := 0
      group.duration := 0
      journal.handed := some .opening }

/-- Entry to COMMITTING (R12): the commit work is handed to the journal unit. -/
def State.enterCommitting (s : State) : State :=
  State.enter .committing { s with journal.handed := some .commit }

/-- The scanner starts anew at an entry to IDLE from RECOVERING or CONFIGURING (R149). -/
def State.renewScanner (s : State) : State :=
  if s.group.state == .recovering || s.group.state == .configuring then
    { s with scanner.count := 0, scanner.last := none }
  else s

/-- Entry to IDLE with the level check (R6). -/
def State.enterIdle (s : State) : State :=
  let s1 := State.enter .idle { State.renewScanner s with group.openPending := false }
  if s1.lines.grp then State.enterOpening s1 else s1

/-! Scans (R149, R150, R156). -/

/-- The scanner requests the next read of the scan in progress (R150). A read of an abandoned scan
still in flight must complete first (R141; log entry 20). -/
def State.requestScanRead (s : State) : State :=
  if s.scanner.scan = .none ∨ s.inFlightIs .scanRead = true then s
  else State.request { purpose := .scanRead, addr := s.scanner.next, body := .read 8 } s

/-- A scan starts (R150). -/
def State.startScan (kind : ScanKind) (region : Nat) (s : State) : State :=
  let first := regionFirst s.anchor.live region
  let last := regionLast s.anchor.live region
  State.requestScanRead
    { s with
      scanner.scan := kind
      scanner.region := region
      scanner.next := first * 512
      scanner.remaining := (last + 1 - first) * 512
      scanner.value := 0 }

/-- A scan in progress is abandoned without a report; a read of it in flight will be discarded
(R141, R156). -/
def State.abandonScan (s : State) : State :=
  if s.scanner.scan = .none then s
  else
    State.withdraw .scanner
      { s with scanner.scan := .none, port.discard := s.port.discard || s.inFlightIs .scanRead }

/-- The scanner becomes idle (R149, R156). -/
def State.idleScanner (s : State) : State :=
  { State.abandonScan s with scanner.count := 0, scanner.due := false }

/-- A due periodic scan starts when PFAIL is deasserted and no scan is in progress, its region
chosen again (R152). -/
def State.startDueScan (s : State) : State :=
  if s.scanner.due && !s.lines.pfail && s.scanner.scan == .none &&
      GroupState.scannerWorks s.group.state then
    match nextPeriodic s.anchor.live s.scanner.last with
    | some i => State.startScan .periodic i { s with scanner.due := false }
    | none => s
  else s

/-! The abort (R41, R61, R66). -/

/-- The queue without the group's entries; the head stays when its data write is in flight (R61).
All GROUP entries are the open group's (R49). -/
def removeGroup (dataWriting : Bool) : List Entry → List Entry
  | [] => []
  | e :: rest =>
    if dataWriting then e :: rest.filter (fun x => !Tag.isGroup x.tag)
    else (e :: rest).filter (fun x => !Tag.isGroup x.tag)

/-- What an abort makes of the access on the host bus (R54, R55, R61). -/
def abortAccess (journaled : Bool) (p : AccessPhase) : AccessPhase :=
  match p with
  | .waiting post => if Tag.isGroup post.tag then .held true else .waiting post
  | .forming post => if Tag.isGroup post.tag then .discarding else .forming post
  | .readQueued => if journaled then .held true else .readQueued
  | q => q

/-- What an abort makes of the forward activity (R41, R61, R67): a retirement of a removed entry
goes on to the end of its transfer in flight, and is dropped with its request when none is. -/
def State.abortForward (s : State) : State :=
  match s.journal.forward with
  | some (.retire e removed) =>
    if Tag.isGroup e.tag then
      if s.inFlightIs .dataWrite then s
      else if s.inFlightFor .forward then
        { s with journal.forward := some (.retire e true) }
      else State.withdraw .forward { s with journal.forward := none }
    else { s with journal.forward := some (.retire e removed) }
  | _ => s

/-- An abort or age timeout taken in OPEN (R14, R19, R61, R66). -/
def State.takeAbort (cause : Cause) (s : State) : State :=
  let s1 := State.abortForward s
  State.enter .rollingBack
    { s1 with
      queue := removeGroup (s.inFlightIs .dataWrite) s.queue
      group.closePending := false
      group.openPending := false
      journal.reserved := 0
      journal.backward := .rollbackDue s.groupNumber cause
      host.access := s.host.access.map (fun a =>
        { a with phase := abortAccess (Lookup.journaled (s.lookup (Access.block a))) a.phase }) }

/-- The age counter has reached the limit of an open group (R19). -/
def State.ageTimeoutDue (s : State) : Bool :=
  s.group.state == .groupOpen && s.ageLimit != 0 && s.ageLimit ≤ s.group.age

/-- The timeout is taken when the counter reaches the limit (R19). -/
def State.takeAgeTimeout (s : State) : State :=
  if s.ageTimeoutDue then State.takeAbort .ageLimit s else s

/-! The close of a moment (log entries 4 and 5). -/

/-- Before a happening from outside, or the completion of a transfer, is taken, the moment before
it closes: an age timeout that has come is taken (R19), a due scan that can start has started
(R152, R155), and a free port is granted (R142). -/
def State.settle (s : State) : State :=
  State.grant (State.startDueScan (State.takeAgeTimeout s))

/-- New memory work takes the power condition from SAFE back to DRAINING (R122). -/
def State.finish (s : State) : State :=
  if s.power == .safe && s.workPending then { s with power := .draining } else s

/-- A command whose effect comes after the moment before it has closed. -/
def State.outside (effect : State → State) (s : State) : Host.Outcome State Fault Refusal :=
  .next (if s.running then State.finish (effect (State.settle s)) else s)

/-- One of the bridge's own happenings, taken within the moment that brought it about. -/
def State.within (effect : State → State) (s : State) : Host.Outcome State Fault Refusal :=
  .next (if s.running then State.finish (effect s) else s)

/-- The idle step: no command waits, so the moment closes (log entry 6). -/
def State.idleStep (s : State) : Host.Outcome State Fault Refusal := State.outside (fun s => s) s

/-! Completions (R140, R142). -/

/-- The transfer in flight is for this purpose: it completes whole, the port is free, and its owner
goes on with the words read. Otherwise nothing completes. -/
def State.complete (p : Purpose) (after : Transfer → List Word → State → State) (s : State) :
    State :=
  match s.port.inFlight with
  | some t =>
    if t.purpose = p then
      after t (Transfer.wordsRead t s.mem)
        { s with port.inFlight := none, mem := Transfer.memoryAfter t s.mem }
    else s
  | none => s

/-! The journal unit's requests (R22, R26, R27). -/

/-- Request a write of words at a journal offset, both lanes. -/
def State.requestJournalWrite (p : Purpose) (offset : Nat) (ws : List Word) (s : State) : State :=
  State.request
    { purpose := p, addr := journalWord s.anchor.live offset, body := .write (bothLanes ws) } s

/-- Request a read of words from a journal offset. -/
def State.requestJournalRead (p : Purpose) (offset count : Nat) (s : State) : State :=
  State.request { purpose := p, addr := journalWord s.anchor.live offset, body := .read count } s

/-- Request a header write to the slot that does not hold the current header (R26). -/
def State.requestHeader (p : Purpose) (group highWater : Nat) (s : State) : State :=
  match s.journal.header with
  | some h =>
    let h' := Header.next h group highWater
    State.requestJournalWrite p (Slot.offset h'.slot) (Header.words h')
      { s with journal.slotWriting := some h' }
  | none => s

/-- The header write completes: the written slot becomes the current header (R25, R26). -/
def State.headerWritten (s : State) : State :=
  { s with journal.header := s.journal.slotWriting, journal.slotWriting := none }

/-- The high-water after a group of w images (R45). -/
def raisedHighWater (highWater images : Nat) : Nat := max highWater (16 + 8 * images)

/-- The current header's high-water; 8 when there is no header (R45). -/
def State.highWater (s : State) : Nat :=
  match s.journal.header with
  | some h => h.highWater
  | none => 8

/-! HALTED (R69, R104, R109, R115). -/

/-- Entry to HALTED with JOURNAL_UNREADABLE: the set is emptied, the counts are 0, the current
header is discarded and the scanner is idle. -/
def State.haltJournal (cause : UnreadableCause) (offset : Nat) (s : State) : State :=
  State.enter .halted
    (State.raise (.journalUnreadable cause offset)
      { State.idleScanner s with
        journal.saved := []
        journal.written := 0
        journal.reserved := 0
        journal.header := none
        journal.backward := .idle })

/-! The backward activity (R67, R68, R72). -/

/-- The backward activity requests the UNDONE record (R72). -/
def State.requestUndone (r : Rollback) (s : State) : State :=
  State.requestJournalWrite .undoneWrite (imageOffset r.total)
    (undoneRecordWords r.group r.restored r.cause) { s with journal.backward := .restoring r }

/-- The backward activity takes a rollback of w images and starts at the newest IMAGE record, or
with the UNDONE record when there is none (R67, R72). DESIGN CHOICE: for w = 0 R67 sets no next offset;
the rollback then holds offset 12, which nothing reads (log entry 27). -/
def State.startRollback (group : Nat) (cause : Cause) (w : Nat) (s : State) : State :=
  let r : Rollback :=
    { group := group, cause := cause, total := w, next := imageOffset (w - 1), restored := 0 }
  if w = 0 then State.requestUndone r s
  else State.requestJournalRead .imageRead r.next 8 { s with journal.backward := .restoring r }

/-! Recovery's finish (R111). -/

/-- Recovery leaves RECOVERING for IDLE (R111). -/
def State.finishRecovery (s : State) : State :=
  State.enterIdle { s with journal.backward := .idle }

/-- The anchor load's read at a word address: eight words, or the words left of the 42 (R88). -/
def loadTransfer (addr : Nat) : Transfer :=
  { purpose := .anchorLoad, addr := addr, body := .read (min 8 (Config.anchorWords - addr)) }

/-- Recovery begins with the first read of the anchor load (R88, R102, R145). -/
def State.beginRecovery (s : State) : State := State.request (loadTransfer 0) s

/-! The time base (R17). -/

/-- The time base starts from a count of 0 when an anchor becomes live (R17). -/
def State.startTimeBase (s : State) : State :=
  { s with
    group.timeRunning := true
    group.clkCount := 0
    group.divisor := anchorDivisor s.anchor.live }

/-! The link (R166, R167, R169). -/

/-- The status codes (R167, R179). -/
inductive LinkStatus where
  | ok
  | started
  | busy
  | noGroup
  | tooLate
  | already
  | invalid
  | badCheck
  | unknown
  | none
  deriving DecidableEq, Repr

/-- R179. -/
def LinkStatus.code : LinkStatus → Byte
  | .ok => 0x01
  | .started => 0x02
  | .busy => 0x03
  | .noGroup => 0x04
  | .tooLate => 0x05
  | .already => 0x06
  | .invalid => 0x07
  | .badCheck => 0x08
  | .unknown => 0x09
  | .none => 0x0A

/-- The response part without filler: status, data, check (R167). -/
def responsePart (st : LinkStatus) (data : List Byte) : List Byte :=
  (LinkStatus.code st :: data) ++ [checkByte (LinkStatus.code st :: data)]

/-- The frame's command part has ended and its response part is shifted, from the first byte period
on: only a READ_JOURNAL that waits has filler (R167). -/
def State.respond (st : LinkStatus) (data : List Byte) (s : State) : State :=
  { s with link.frame := .answered, link.response := responsePart st data, link.fillers := 0 }

/-- A command taken is answered, and the last-command fields are set (R166, R169). -/
def State.answer (i : Instr) (st : LinkStatus) (data : List Byte) (s : State) : State :=
  State.respond st data
    { s with link.code := commandCode i, link.status := LinkStatus.code st, link.reason := 0 }

/-- INVALID is followed by one reason byte, which the last-command fields keep (R167, R169). -/
def State.answerInvalid (i : Instr) (r : InvalidReason) (s : State) : State :=
  State.respond .invalid [InvalidReason.code r]
    { s with link.code := commandCode i, link.status := LinkStatus.code .invalid,
             link.reason := InvalidReason.code r }

/-- A command part is taken only in a frame that awaits one (R164). -/
def State.inFrame (effect : State → State) (s : State) : State :=
  if s.link.frame = .awaiting then effect s else s

/-- The last-command fields take the outcome of an outstanding READ_JOURNAL, while they still
stand for it (R169; log entry 15). -/
def State.settleReadStatus (st : LinkStatus) (s : State) : State :=
  if s.link.code = 0x0B ∧ s.link.status = 0x00 then
    { s with link.status := LinkStatus.code st }
  else s

/-- The response part is shifted after filler: how many filler bytes were shifted while the answer
was not ready is a free value (R167; log entry 28). -/
def State.respondAfterFiller (st : LinkStatus) (data : List Byte) (s : State) : State :=
  { State.respond st data s with
    link.fillers := Config.freeFillers s.freeCount, freeCount := s.freeCount + 1 }

/-- The outstanding link journal read ends with this answer, shifted if its frame stands (R174). -/
def State.endLinkRead (st : LinkStatus) (data : List Byte) (s : State) : State :=
  let s1 := State.settleReadStatus st { s with link.read := .none }
  match s.link.read with
  | .outstanding true => State.respondAfterFiller st data s1
  | _ => s1

/-! Reset (R99, R100, R124, R145). -/

/-- The power condition while RST is asserted, or the bridge is unpowered: no work is pending
(R124). -/
def restCondition (powered pfail : Bool) : PowerCondition :=
  if powered && pfail then .safe else .normal

/-- A frame across a release of RST or power-on is ignored to its end (R175). -/
def resetFrame (lsel : Bool) : Frame := if lsel then .ignored else .none

/-- Everything inside the bridge at its reset values; lines, memory, free values and waiting
commands stay (the table of R99). -/
def State.cleared (s : State) : State :=
  { lines := s.lines
    group := GroupController.reset
    journal := Journal.reset
    queue := []
    host := HostPort.reset
    anchor := AnchorUnit.reset
    port := MemoryPort.reset
    scanner := Scanner.reset
    power := restCondition s.lines.powered s.lines.pfail
    events := EventUnit.reset
    link := { Link.reset with frame := resetFrame (s.lines.powered && s.lines.lsel) }
    mem := s.mem
    freeCount := s.freeCount
    pending := s.pending }

/-- Start-up with the strap levels given: recovery begins, and it is memory work, so PFAIL asserted
gives DRAINING (R100, R124, R147). -/
def State.startUp (straps : BitVec 2) (s : State) : State :=
  State.beginRecovery
    { State.cleared s with
      lines.waits := straps
      power := if s.lines.pfail then .draining else .normal }

end Sys2Proof.Machine
end

