-- ==== Sys2Proof/Machine/Group.lean ====
section
/-! DEFINITION. The group controller's happenings: GRP_RISE, GRP_FALL, TICK, AGE_TIMEOUT. -/

namespace Sys2Proof.Machine

/-- A rise of GRP in each group state (R4). -/
def State.takeRise (s : State) : State :=
  match s.group.state with
  | .idle => State.enterOpening s
  | .opening => { s with group.openPending := true }
  | .committing => { s with group.openPending := true }
  | _ => s

/-- A fall of GRP in each group state (R5). -/
def State.takeFall (s : State) : State :=
  match s.group.state with
  | .opening => { s with group.closePending := true, group.openPending := false }
  | .groupOpen => State.enterCommitting s
  | .committing => { s with group.openPending := false }
  | .aborted => State.enterIdle s
  | _ => s

/-- GRP_RISE (R3, R4). An edge is a change of the level; under RST the level is followed and no
edge is taken (R100; log entry 18). -/
def execGrpRise (s : State) : Host.Outcome State Fault Refusal :=
  if s.lines.grp then .next s
  else if s.running then
    State.outside (fun s => State.takeRise { s with lines.grp := true }) s
  else .next { s with lines.grp := true }

/-- GRP_FALL (R3, R5). -/
def execGrpFall (s : State) : Host.Outcome State Fault Refusal :=
  if s.lines.grp then
    if s.running then State.outside (fun s => State.takeFall { s with lines.grp := false }) s
    else .next { s with lines.grp := false }
  else .next s

/-- The interval count counts a tick (R151). It does not pass the scan interval: the expiry that
its reaching brings stops it (R152; log entry 23). -/
def State.intervalCounts (s : State) : Bool :=
  GroupState.scannerWorks s.group.state && !s.scanner.due &&
    s.scanner.count < anchorScanInterval s.anchor.live && s.scanner.scan != .periodic

/-- A completed tick period (R17, R18, R19, R20, R151): the next period takes the live divisor. -/
def State.takeTick (s : State) : State :=
  { s with
    group.clkCount := 0
    group.divisor := anchorDivisor s.anchor.live
    group.age :=
      if s.group.state == .groupOpen && !s.lines.pfail then min 65535 (s.group.age + 1)
      else s.group.age
    group.duration :=
      if s.group.state == .groupOpen then min 65535 (s.group.duration + 1) else s.group.duration
    scanner.count := if s.intervalCounts then s.scanner.count + 1 else s.scanner.count }

/-- TICK (R17): nothing while the time base is stopped. -/
def execTick (s : State) : Host.Outcome State Fault Refusal :=
  State.outside (fun s => if s.group.timeRunning then State.takeTick s else s) s

/-- AGE_TIMEOUT (R19): the age counter has reached the age limit in OPEN. -/
def execAgeTimeout (s : State) : Host.Outcome State Fault Refusal :=
  State.within State.takeAgeTimeout s

end Sys2Proof.Machine
end

