-- ==== Sys2Proof/Machine/Power.lean ====
section
/-! DEFINITION. Supply, reset and power-fail: POWER_ON, POWER_LOSS, RST_ASSERTION, RST_RELEASE,
PFAIL_ASSERTION, PFAIL_DEASSERTION, SAFE_ENTRY. -/

namespace Sys2Proof.Machine

/-- POWER_ON (R100): every block at its reset values, and recovery begins once CLK runs. With RST
asserted the release begins it (log entry 21). -/
def execPowerOn (straps : BitVec 2) (s : State) : Host.Outcome State Fault Refusal :=
  .next
    (if s.lines.powered then s
     else
      let s1 := { s with lines.powered := true, lines.waits := straps }
      if s.lines.rst then State.cleared s1 else State.startUp straps s1)

/-- Loss of power cuts the transfer in flight after `done` whole words (R146). -/
def State.cutInFlight (done : Nat) (s : State) : Memory :=
  match s.port.inFlight with
  | some t => Transfer.memoryCut t done (Config.freeWord s.freeCount) s.mem
  | none => s.mem

/-- POWER_LOSS (R64, R126, R146): the transfer in flight is cut, all state inside the bridge is
lost, the memory keeps what it holds. -/
def execPowerLoss (wordsWritten : Nat) (s : State) : Host.Outcome State Fault Refusal :=
  .next
    (if s.lines.powered then
      let s1 := if s.running then State.settle s else s
      State.cleared
        { s1 with
          mem := State.cutInFlight wordsWritten s1
          freeCount := s1.freeCount + 1
          lines.powered := false }
     else s)

/-- The transfer in flight completes whole (R99, R140); words it reads are discarded. -/
def State.wholeInFlight (s : State) : Memory :=
  match s.port.inFlight with
  | some t => Transfer.memoryAfter t s.mem
  | none => s.mem

/-- RST_ASSERTION (R99, R21, R64, R145, R163, R175): the transfer in flight completes, everything
else is abandoned (log entry 8). -/
def execRstAssertion (s : State) : Host.Outcome State Fault Refusal :=
  .next
    (if s.lines.rst then s
     else if s.lines.powered then
      let s1 := State.settle s
      State.cleared { s1 with mem := State.wholeInFlight s1, lines.rst := true }
     else { s with lines.rst := true })

/-- RST_RELEASE (R100, R102, R124, R145): the straps are read and recovery begins. -/
def execRstRelease (straps : BitVec 2) (s : State) : Host.Outcome State Fault Refusal :=
  .next
    (if s.lines.rst then
      if s.lines.powered then State.startUp straps { s with lines.rst := false }
      else { s with lines.rst := false }
     else s)

/-- A refused access raises ACCESS_REFUSED with its address, direction and reason (R134). -/
def State.refuseAccess (reason : RefusalReason) (a : Access) (s : State) : State :=
  State.raise (.accessRefused a.addr a.write reason)
    { s with host.access := some { a with phase := .refused reason } }

/-- The reservation of a waiting access is withdrawn: the count falls, and a claim made on its
account leaves the set (R54). -/
def State.withdrawReservation (a : Access) (p : Post) (s : State) : State :=
  { s with
    journal.reserved := if Tag.owesImage p.tag then s.journal.reserved - 1 else s.journal.reserved
    journal.saved :=
      if p.claimed then s.journal.saved.filter (fun b => b.block != Access.block a)
      else s.journal.saved }

/-- PFAIL assertion at the host bus port: a held access and one waiting for a place are refused
POWER_FAIL (R54, R118, R139). -/
def State.powerFailAccess (s : State) : State :=
  match s.host.access with
  | none => s
  | some a =>
    match a.phase with
    | .held _ => State.refuseAccess .powerFail a s
    | .waiting p => State.refuseAccess .powerFail a (State.withdrawReservation a p s)
    | _ => s

/-- PFAIL assertion at the scanner: a periodic scan abandoned becomes due again (R156). -/
def State.powerFailScan (s : State) : State :=
  { State.abandonScan s with scanner.due := s.scanner.due || s.scanner.scan == .periodic }

/-- PFAIL assertion at the link: a READ_JOURNAL whose transfer has not been granted is dropped and
answered BUSY (R119, R174). -/
def State.powerFailLink (s : State) : State :=
  match s.port.requests.link with
  | some _ => State.endLinkRead .busy [] (State.withdraw .link s)
  | none => s

/-- PFAIL_ASSERTION (R116, R118, R119): the condition becomes DRAINING if memory work is pending
and SAFE otherwise. Under RST the level is followed (R100, R124). -/
def execPfailAssertion (s : State) : Host.Outcome State Fault Refusal :=
  .next
    (if s.lines.pfail then s
     else if s.running then
      let s1 := State.powerFailLink (State.powerFailScan (State.powerFailAccess
        { State.settle s with lines.pfail := true }))
      { s1 with power := if s1.workPending then .draining else .safe }
     else
      { s with lines.pfail := true, power := restCondition s.lines.powered true })

/-- PFAIL_DEASSERTION (R123): the condition becomes NORMAL. -/
def execPfailDeassertion (s : State) : Host.Outcome State Fault Refusal :=
  .next
    (if s.lines.pfail then
      { (if s.running then State.settle s else s) with lines.pfail := false, power := .normal }
     else s)

/-- SAFE_ENTRY (R121): with PFAIL asserted, the condition enters SAFE at the moment memory work
stops being pending. -/
def execSafeEntry (s : State) : Host.Outcome State Fault Refusal :=
  State.within
    (fun s =>
      if s.lines.pfail && s.power == .draining && !s.workPending then { s with power := .safe }
      else s) s

end Sys2Proof.Machine
end

