-- ==== Sys2Proof/Machine/HostBus.lean ====
section
/-! DEFINITION. The host bus port: HOST_ADDRESS_PHASE, HOST_DATA_PHASE, HELD_ACCESS_RELEASE,
WAITING_WRITE_TAKES_PLACE, QUEUED_READ_PROCEEDS, HOST_READ_TRANSFER_COMPLETE. -/

namespace Sys2Proof.Machine

/-- The tests of R130, steps 1 to 5, in their order. -/
def State.verdict (a : Access) (s : State) : Verdict :=
  if s.lines.pfail then .refuse .powerFail
  else if Access.crosses a then .refuse .badBurst
  else if s.group.state == .configuring || (s.group.state == .recovering && !s.anchor.isLive) then
    .hold
  else lookupVerdict s.group.state (s.lookup (Access.block a)) a.write

/-- The access carried takes a phase. -/
def State.setPhase (a : Access) (p : AccessPhase) (s : State) : State :=
  { s with host.access := some { a with phase := p } }

/-- A write classified to be posted has a place, or waits for one (R50, R53). -/
def State.post (a : Access) (p : Post) (s : State) : State :=
  State.setPhase a
    (if s.queue.length < Config.queuePlaces then .forming p else .waiting p) s

/-- The block is in the saved-block set (R32). -/
def State.inSaved (block : Nat) (s : State) : Bool :=
  s.journal.saved.any (fun b => b.block == block)

/-- A group write: the journal unit decides its reservation (R34, R36, R133). -/
def State.reserve (a : Access) (s : State) : State :=
  let block := Access.block a
  if s.inSaved block then
    State.post a { tag := .group s.groupNumber false, claimed := false } s
  else if s.journal.written + s.journal.reserved = s.capacity then
    State.raise (.journalFull s.groupNumber block) (State.setPhase a (.refused .journalFull) s)
  else
    let room : Bool := s.journal.saved.length < Config.savedPlaces
    State.post a { tag := .group s.groupNumber true, claimed := room }
      { s with
        journal.reserved := s.journal.reserved + 1
        journal.saved :=
          if room then s.journal.saved ++ [{ block := block, state := .claimed }]
          else s.journal.saved }

/-- The read requests its transfer (R135). -/
def State.requestHostRead (a : Access) (s : State) : State :=
  State.request
    { purpose := .hostRead, addr := Access.wordAddr a, body := .read (Access.count a) }
    (State.setPhase a .readRequested s)

/-- Classification (R130) and what follows from it (R134 to R136, R51, R59). -/
def State.classify (a : Access) (s : State) : State :=
  match s.verdict a with
  | .refuse reason => State.refuseAccess reason a s
  | .hold => State.setPhase a (.held false) s
  | .serve =>
    if s.queueNames (Access.block a) then State.setPhase a .readQueued s
    else State.requestHostRead a s
  | .postPlain =>
    if Access.allNone a then State.setPhase a .silent s
    else State.post a { tag := .plain, claimed := false } s
  | .postGroup => if Access.allNone a then State.setPhase a .silent s else State.reserve a s

/-- HOST_ADDRESS_PHASE (R127, R130): taken only while the port carries no access. -/
def execHostAddressPhase (p : AddressPhase) (s : State) : Host.Outcome State Fault Refusal :=
  State.outside
    (fun s =>
      if s.host.access.isNone && AddressPhase.wf p then
        State.classify (AddressPhase.access p) { s with host.answer := none }
      else s) s

/-- The entry a forming access forms at its last data phase (R48, R52). -/
def Access.entry (a : Access) (received : List Word) (tag : Tag) : Entry :=
  { block := Access.block a, first := Access.first a, words := a.lanes.zip received, tag := tag }

/-- A data phase is answered; after its last one the access has left the port (R127). -/
def State.answerPhase (a : Access) (ans : Answer) (received : List Word) (s : State) : State :=
  { s with
    host.answer := some ans
    host.access :=
      if a.answered + 1 < Access.count a then
        some { a with answered := a.answered + 1, received := received }
      else none }

/-- A data phase of a forming access: the word is kept, and the last one forms the entry at the
tail (R50, R52). -/
def State.formingPhase (a : Access) (post : Post) (data : Word) (s : State) : State :=
  let received := a.received ++ [data]
  let s1 := State.answerPhase a (.ack none) received s
  if a.answered + 1 < Access.count a then s1
  else { s1 with queue := s.queue ++ [Access.entry a received post.tag] }

/-- A data phase of a served read before its transfer has completed (R128, R135): it is answered if its
word has come back. The last word has not while the transfer is in flight (R140); whether an earlier one
has is a free value (log entry 29). -/
def State.earlyPhase (a : Access) (s : State) : State :=
  match s.port.inFlight with
  | some t =>
    if t.purpose = .hostRead ∧ a.answered + 1 < Access.count a then
      let s1 := { s with freeCount := s.freeCount + 1 }
      if Config.freeWordBack s.freeCount then
        State.answerPhase a (.ack (some ((Transfer.wordsRead t s.mem).getD a.answered 0)))
          a.received s1
      else { s1 with host.answer := none }
    else { s with host.answer := none }
  | none => { s with host.answer := none }

/-- A data phase by the phase of its access (R128, R51, R55, R135). -/
def State.takeDataPhase (data : Word) (s : State) : State :=
  match s.host.access with
  | none => s
  | some a =>
    match a.phase with
    | .refused _ => State.answerPhase a .refuse a.received s
    | .silent => State.answerPhase a (.ack none) a.received s
    | .forming post => State.formingPhase a post data s
    | .discarding => State.answerPhase a (.ack none) a.received s
    | .readDone words =>
      State.answerPhase a (.ack (some (words.getD a.answered 0))) a.received s
    | .held _ => { s with host.answer := none }
    | .waiting _ => { s with host.answer := none }
    | .readQueued => { s with host.answer := none }
    | .readRequested => State.earlyPhase a s

/-- HOST_DATA_PHASE (R128): a data phase left unanswered stays on the bus and is taken again
(log entry 10). -/
def execHostDataPhase (data : Word) (s : State) : Host.Outcome State Fault Refusal :=
  State.outside (State.takeDataPhase data) s

/-- HELD_ACCESS_RELEASE (R137): a held access for which a moment of release has come is classified
again. -/
def execHeldAccessRelease (s : State) : Host.Outcome State Fault Refusal :=
  State.within
    (fun s =>
      match s.host.access with
      | some a => if a.phase = .held true then State.classify a s else s
      | none => s) s

/-- WAITING_WRITE_TAKES_PLACE (R53): a place is free, and the waiting access becomes forming. -/
def execWaitingWriteTakesPlace (s : State) : Host.Outcome State Fault Refusal :=
  State.within
    (fun s =>
      match s.host.access with
      | some a =>
        match a.phase with
        | .waiting p =>
          if s.queue.length < Config.queuePlaces then State.setPhase a (.forming p) s else s
        | _ => s
      | none => s) s

/-- QUEUED_READ_PROCEEDS (R59): the last entry naming the read's block has left. -/
def execQueuedReadProceeds (s : State) : Host.Outcome State Fault Refusal :=
  State.within
    (fun s =>
      match s.host.access with
      | some a =>
        if a.phase = .readQueued ∧ s.queueNames (Access.block a) = false then
          State.requestHostRead a s
        else s
      | none => s) s

/-- HOST_READ_TRANSFER_COMPLETE (R135): the last word has come back, and the words whose data phases
are still to come are kept until they do. -/
def execHostReadTransferComplete (s : State) : Host.Outcome State Fault Refusal :=
  State.outside
    (State.complete .hostRead (fun _ ws s =>
      match s.host.access with
      | some a => if a.phase = .readRequested then State.setPhase a (.readDone ws) s else s
      | none => s)) s

end Sys2Proof.Machine
end

