-- ==== Sys2Proof/Machine/LinkPort.lean ====
section
/-! DEFINITION. The management link: LSEL_ASSERTION, LSEL_DEASSERTION, STATUS, NEXT_EVENT,
ABORT_GROUP, SET_MASK, READ_LIVE, READ_STAGE, STAGE, COPY_LIVE_TO_STAGE, READ_JOURNAL,
UNKNOWN_COMMAND, BAD_CHECK_FRAME, LINK_JOURNAL_READ_COMPLETE. -/

namespace Sys2Proof.Machine

/-- LSEL_ASSERTION (R164): a frame begins. Under RST, and across its release, the frame is ignored
to its end (R175). -/
def execLselAssertion (s : State) : Host.Outcome State Fault Refusal :=
  if s.lines.lsel then .next s
  else if s.running then
    State.outside (fun s => { s with lines.lsel := true, link.frame := .awaiting }) s
  else .next { s with lines.lsel := true, link.frame := resetFrame s.lines.powered }

/-- A frame ends (R164, R168): one cut after its command byte and before its check byte raises
LINK_ERROR; what remains of a response is lost; an outstanding journal read goes on unheard. -/
def State.endFrame (received : List Byte) (s : State) : State :=
  let s1 :=
    { s with
      lines.lsel := false
      link.frame := .none
      link.response := []
      link.fillers := 0
      link.read := (match s.link.read with
        | .outstanding _ => .outstanding false
        | .none => .none) }
  if s.link.frame = .awaiting ∧ received ≠ [] then State.raise (.linkError 1 0) s1 else s1

/-- LSEL_DEASSERTION (R168), with the bits sampled in a command part that was not finished; the
bits of an incomplete byte are discarded (R164). -/
def execLselDeassertion (bits : List Bool) (s : State) : Host.Outcome State Fault Refusal :=
  if s.lines.lsel && partUnfinished (bytesOfBits bits) then
    if s.running then State.outside (State.endFrame (bytesOfBits bits)) s
    else .next { s with lines.lsel := false, link.frame := .none }
  else .next s

/-- STATUS (R171): a picture of this moment; the last-command fields stay (R169). -/
def execStatus (s : State) : Host.Outcome State Fault Refusal :=
  State.outside (State.inFrame (fun s => State.respond .ok s.statusRecord s)) s

/-- NEXT_EVENT taken (R160): the entry of highest priority leaves the set. -/
def State.takeNextEvent (s : State) : State :=
  match s.events.pendingSet with
  | [] => State.answer .nextEvent .none [] s
  | p :: rest =>
    State.answer .nextEvent .ok (PendingEvent.record p) { s with events.pendingSet := rest }

/-- NEXT_EVENT (R160). -/
def execNextEvent (s : State) : Host.Outcome State Fault Refusal :=
  State.outside (State.inFrame State.takeNextEvent) s

/-- ABORT_GROUP taken (the table of R14). -/
def State.takeAbortGroup (s : State) : State :=
  match s.group.state with
  | .groupOpen => State.answer .abortGroup .ok [] (State.takeAbort .abortCmd s)
  | .opening =>
    if s.group.abortPending then State.answer .abortGroup .already [] s
    else State.answer .abortGroup .ok [] { s with group.abortPending := true }
  | .committing => State.answer .abortGroup .tooLate [] s
  | .idle => State.answer .abortGroup .noGroup [] s
  | .rollingBack => State.answer .abortGroup .already [] s
  | .aborted => State.answer .abortGroup .already [] s
  | .recovering => State.answer .abortGroup .busy [] s
  | .unconfigured => State.answer .abortGroup .busy [] s
  | .halted => State.answer .abortGroup .busy [] s
  | .configuring => State.answer .abortGroup .busy [] s

/-- ABORT_GROUP (R14). -/
def execAbortGroup (s : State) : Host.Outcome State Fault Refusal :=
  State.outside (State.inFrame State.takeAbortGroup) s

/-- SET_MASK taken (R161, R171, R180): the bits above bit 10 are ignored. -/
def State.takeSetMask (mask : Word) (s : State) : State :=
  if s.group.state = .recovering then State.answer (.setMask mask) .busy [] s
  else State.answer (.setMask mask) .ok [] { s with events.mask := maskOf mask }

/-- SET_MASK (R161). -/
def execSetMask (mask : Word) (s : State) : Host.Outcome State Fault Refusal :=
  State.outside (State.inFrame (State.takeSetMask mask)) s

/-- Offset and count name words of an anchor copy (R172). -/
def copyRange (offset count : Byte) : Bool :=
  offset.toNat ≤ 41 && 1 ≤ count.toNat && count.toNat ≤ 8 && offset.toNat + count.toNat ≤ 42

/-- READ_LIVE or READ_STAGE taken, for the copy given (R172). -/
def State.takeCopyRead (i : Instr) (copy : List Word) (offset count : Byte) (s : State) : State :=
  if s.group.state = .recovering then State.answer i .busy [] s
  else if copyRange offset count then
    State.answer i .ok (wordsBytes ((copy.drop offset.toNat).take count.toNat)) s
  else State.answerInvalid i .range s

/-- READ_LIVE (R172, R86). -/
def execReadLive (offset count : Byte) (s : State) : Host.Outcome State Fault Refusal :=
  State.outside (State.inFrame (fun s =>
    State.takeCopyRead (.readLive offset count) s.anchor.live offset count s)) s

/-- READ_STAGE (R172, R87). -/
def execReadStage (offset count : Byte) (s : State) : Host.Outcome State Fault Refusal :=
  State.outside (State.inFrame (fun s =>
    State.takeCopyRead (.readStage offset count) s.anchor.staging offset count s)) s

/-- The words given replace the copy at offset onward (R87). -/
def replaceWords (copy : List Word) (offset : Nat) (words : List Word) : List Word :=
  copy.take offset ++ words ++ copy.drop (offset + words.length)

/-- STAGE taken (R172, R87). -/
def State.takeStage (offset count : Byte) (words : List Word) (s : State) : State :=
  if s.group.state = .recovering ∨ s.group.state = .configuring then
    State.answer (.stage offset count words) .busy [] s
  else if copyRange offset count then
    State.answer (.stage offset count words) .ok []
      { s with anchor.staging := replaceWords s.anchor.staging offset.toNat words }
  else State.answerInvalid (.stage offset count words) .range s

/-- STAGE (R172). -/
def execStage (offset count : Byte) (words : List Word) (s : State) :
    Host.Outcome State Fault Refusal :=
  State.outside (State.inFrame (fun s =>
    if stageWordsWf count words then State.takeStage offset count words s else s)) s

/-- COPY_LIVE_TO_STAGE taken (R172, R87). -/
def State.takeCopyLive (s : State) : State :=
  if s.group.state = .recovering ∨ s.group.state = .configuring then
    State.answer .copyLiveToStage .busy [] s
  else State.answer .copyLiveToStage .ok [] { s with anchor.staging := s.anchor.live }

/-- COPY_LIVE_TO_STAGE (R172). -/
def execCopyLiveToStage (s : State) : Host.Outcome State Fault Refusal :=
  State.outside (State.inFrame State.takeCopyLive) s

/-- READ_JOURNAL taken (R174): the cases in their order, and otherwise the request. There is no
journal area while no anchor is live (R22, R167; log entry 16). -/
def State.takeReadJournal (offset : Word) (count : Byte) (s : State) : State :=
  let i : Instr := .readJournal offset count
  if (s.group.state == .recovering && !s.anchor.isLive) || s.lines.pfail then
    State.answer i .busy [] s
  else if s.link.read ≠ .none then State.answer i .busy [] s
  else if !s.anchor.isLive then State.answerInvalid i .noJournal s
  else if !(1 ≤ count.toNat && count.toNat ≤ 8 &&
      offset.toNat + count.toNat ≤ journalWords s.anchor.live) then
    State.answerInvalid i .range s
  else
    State.requestJournalRead .linkRead offset.toNat count.toNat
      { s with
        link.frame := .answered
        link.response := []
        link.fillers := 0
        link.code := commandCode i
        link.status := 0
        link.reason := 0
        link.read := .outstanding true }

/-- READ_JOURNAL (R174). -/
def execReadJournal (offset : Word) (count : Byte) (s : State) :
    Host.Outcome State Fault Refusal :=
  State.outside (State.inFrame (State.takeReadJournal offset count)) s

/-- LINK_JOURNAL_READ_COMPLETE (R174): the response shifts OK with the words, if its frame still
stands. -/
def execLinkJournalReadComplete (s : State) : Host.Outcome State Fault Refusal :=
  State.outside
    (State.complete .linkRead (fun _ ws s => State.endLinkRead .ok (wordsBytes ws) s)) s

/-- UNKNOWN_COMMAND (R165): answered UNKNOWN, with no effect. -/
def execUnknownCommand (code : Byte) (s : State) : Host.Outcome State Fault Refusal :=
  State.outside (State.inFrame (fun s =>
    if namesCommand code then s else State.respond .unknown [] s)) s

/-- BAD_CHECK_FRAME (R166): not taken; answered BAD_CHECK, and LINK_ERROR is raised. -/
def execBadCheckFrame (part : List Byte) (s : State) : Host.Outcome State Fault Refusal :=
  State.outside (State.inFrame (fun s =>
    if Instr.wf (.badCheckFrame part) then
      State.respond .badCheck [] (State.raise (.linkError 0 1) s)
    else s)) s

end Sys2Proof.Machine
end

