-- ==== Sys2Proof/Machine/Recovery.lean ====
section
/-! DEFINITION. The backward activity and start-up: BACKWARD_ACTIVITY_START, ANCHOR_LOAD_COMPLETE,
HEADER_SLOTS_READ_COMPLETE, WALK_READ_COMPLETE, IMAGE_RECORD_READ_COMPLETE,
RESTORE_BLOCK_WRITE_COMPLETE, UNDONE_RECORD_COMPLETE. -/

namespace Sys2Proof.Machine

/-- BACKWARD_ACTIVITY_START (R67): not while the forward activity has a transfer in flight; then
images written is final and is the number to restore. -/
def execBackwardActivityStart (s : State) : Host.Outcome State Fault Refusal :=
  State.within
    (fun s =>
      match s.journal.backward with
      | .rollbackDue g cause =>
        if s.inFlightFor .forward then s else State.startRollback g cause s.journal.written s
      | _ => s) s

/-- The anchor load ends (R88, R102): valid, the anchor is live and the header slots are read;
invalid, the bridge enters UNCONFIGURED. Held accesses may be released (R137). -/
def State.endAnchorLoad (s : State) : State :=
  match anchorFault s.anchor.live with
  | none =>
    State.requestJournalRead .slotsRead 0 8
      (State.markRelease
        (State.startTimeBase
          { s with
            anchor.staging := s.anchor.live
            anchor.isLive := true
            events.mask := maskOf (anchorMask s.anchor.live)
            journal.backward := .headerChoice }))
  | some reason =>
    State.enter .unconfigured
      (State.raise (.anchorInvalid reason)
        { s with
          anchor.staging := List.replicate Config.anchorWords 0
          anchor.isLive := false })

/-- An anchor copy with the words that a load read gave, at their addresses (R86, R88). -/
def fillCopy (copy : List Word) (addr : Nat) (ws : List Word) : List Word :=
  (List.range Config.anchorWords).map
    (fun k => if addr ≤ k ∧ k < addr + ws.length then ws.getD (k - addr) 0 else wordAtIndex copy k)

/-- The reads of the anchor load complete one after another: each fills its words of the live copy,
the next is asked for and granted, and after the last the anchor test is applied (R86, R88, R141,
R142). `reads` bounds how many are left. -/
def State.loadReads (reads : Nat) (s : State) : State :=
  match reads with
  | 0 => s
  | reads + 1 =>
    match s.port.inFlight with
    | some t =>
      if t.purpose = .anchorLoad then
        let s1 :=
          { s with
            port.inFlight := none
            anchor.live := fillCopy s.anchor.live t.addr (Transfer.wordsRead t s.mem) }
        if t.addr + 8 < Config.anchorWords then
          State.loadReads reads (State.grant (State.request (loadTransfer (t.addr + 8)) s1))
        else State.endAnchorLoad s1
      else s
    | none => s

/-- ANCHOR_LOAD_COMPLETE (R88, R102): the load's six reads complete and the anchor test is applied,
within one step as the table has it (log entry 7). -/
def execAnchorLoadComplete (s : State) : Host.Outcome State Fault Refusal :=
  State.outside (State.loadReads 6) s

/-- The walk asks for the record at a position: eight words, or the words left before L (R105). -/
def State.requestWalk (position : Nat) (blocks : List Nat) (s : State) : State :=
  State.requestJournalRead .walkRead position
    (min 8 (journalWords s.anchor.live - position))
    { s with journal.backward := .walk position blocks }

/-- HEADER_SLOTS_READ_COMPLETE (R104, R105): the newest valid slot becomes the current header; with
group 0 the walk reads nothing; with no valid slot the bridge enters HALTED. -/
def execHeaderSlotsReadComplete (s : State) : Host.Outcome State Fault Refusal :=
  State.outside
    (State.complete .slotsRead (fun _ ws s =>
      match newestHeader (journalWords s.anchor.live) ws with
      | none => State.haltJournal .header 0 s
      | some h =>
        let s1 := { s with journal.header := some h }
        if h.group = 0 then State.finishRecovery s1 else State.requestWalk 8 [] s1)) s

/-- The run is closed (R107, R108): the header is rewritten when the walk end exceeds the
high-water. -/
def State.runClosed (walkEnd : Nat) (s : State) : State :=
  if s.highWater < walkEnd then
    { s with journal.backward := .idle, journal.handed := some (.recoveryRewrite walkEnd) }
  else State.finishRecovery s

/-- The run has no closing record (R107, R109, R110): the images are validated, then the rollback
begins with cause RECOVERY. -/
def State.runOpen (blocks : List Nat) (s : State) : State :=
  match firstForbidden s.anchor.live blocks with
  | some k => State.haltJournal .image (imageOffset k) s
  | none => State.startRollback s.groupNumber .recovery blocks.length s

/-- The walk stops without a closing record (R107): with no OPEN record there is nothing to undo. -/
def State.walkStops (position : Nat) (blocks : List Nat) (s : State) : State :=
  if position = 8 then State.finishRecovery s else State.runOpen blocks s

/-- The walk moves on, or stops where the area ends (R105). -/
def State.walkOn (position : Nat) (blocks : List Nat) (s : State) : State :=
  if position = journalWords s.anchor.live then State.runOpen blocks s
  else State.requestWalk position blocks s

/-- WALK_READ_COMPLETE (R105, R106, R107). -/
def execWalkReadComplete (s : State) : Host.Outcome State Fault Refusal :=
  State.outside
    (State.complete .walkRead (fun _ ws s =>
      match s.journal.backward with
      | .walk position blocks =>
        match walkRecord (journalWords s.anchor.live) s.groupNumber position blocks.length ws with
        | none => State.walkStops position blocks s
        | some .opened => State.walkOn (position + 4) blocks s
        | some .image => State.walkOn (position + 8) (blocks ++ [imageRecordBlock ws]) s
        | some .commit => State.runClosed (position + 4) s
        | some .undone => State.runClosed (position + 4) s
      | _ => s)) s

/-- IMAGE_RECORD_READ_COMPLETE (R68, R69): the record is tested; the block write follows, or the
bridge enters HALTED. -/
def execImageRecordReadComplete (s : State) : Host.Outcome State Fault Refusal :=
  State.outside
    (State.complete .imageRead (fun _ ws s =>
      match s.journal.backward with
      | .restoring r =>
        if imageRecordOk s.anchor.live r.group ws then
          State.request
            { purpose := .restoreWrite, addr := imageRecordBlock ws * 4,
              body := .write (bothLanes (imageRecordOld ws)) } s
        else State.haltJournal .image r.next s
      | _ => s)) s

/-- RESTORE_BLOCK_WRITE_COMPLETE (R68, R72): the next older record, or the UNDONE record. -/
def execRestoreBlockWriteComplete (s : State) : Host.Outcome State Fault Refusal :=
  State.outside
    (State.complete .restoreWrite (fun _ _ s =>
      match s.journal.backward with
      | .restoring r =>
        let r' := { r with restored := r.restored + 1, next := r.next - 8 }
        if r'.restored = r'.total then State.requestUndone r' s
        else State.requestJournalRead .imageRead r'.next 8
          { s with journal.backward := .restoring r' }
      | _ => s)) s

/-- UNDONE_RECORD_COMPLETE (R72, R73, R110): the closing header is handed to the forward
activity. -/
def execUndoneRecordComplete (s : State) : Host.Outcome State Fault Refusal :=
  State.outside
    (State.complete .undoneWrite (fun _ _ s =>
      match s.journal.backward with
      | .restoring r =>
        { s with
          journal.backward := .idle
          journal.handed := some (if r.cause = .recovery then .closeRecovery r.restored
                                  else .closeRollback r.cause r.restored) }
      | _ => s)) s

end Sys2Proof.Machine
end

