-- ==== Sys2Proof/Machine/ScanUnit.lean ====
section
/-! DEFINITION. The verification scanner: SCAN_REGION, SCAN_INTERVAL_EXPIRY,
DUE_PERIODIC_SCAN_START, SCAN_READ_COMPLETE. -/

namespace Sys2Proof.Machine

/-- SCAN_REGION taken (the table of R154, first matching row). -/
def State.takeScanRegion (index : Byte) (s : State) : State :=
  if !GroupState.scannerWorks s.group.state || s.lines.pfail || s.scanner.scan != .none then
    State.answer (.scanRegion index) .busy [] s
  else if 7 < index.toNat then State.answerInvalid (.scanRegion index) .regionIndex s
  else if regionAttr s.anchor.live index.toNat = .none then
    State.answerInvalid (.scanRegion index) .regionUnused s
  else State.answer (.scanRegion index) .started [] (State.startScan .onRequest index.toNat s)

/-- SCAN_REGION (R154). -/
def execScanRegion (index : Byte) (s : State) : Host.Outcome State Fault Refusal :=
  State.outside (State.inFrame (State.takeScanRegion index)) s

/-- The interval has expired and its result is still to come (R151, R152). -/
def State.intervalExpired (s : State) : Bool :=
  GroupState.scannerWorks s.group.state && anchorScanInterval s.anchor.live != 0 &&
    anchorScanInterval s.anchor.live ≤ s.scanner.count && !s.scanner.due &&
    s.scanner.scan != .periodic

/-- The expiry of the scan interval (the table of R152). -/
def State.takeExpiry (s : State) : State :=
  match nextPeriodic s.anchor.live s.scanner.last with
  | none => { s with scanner.count := 0 }
  | some i =>
    if s.lines.pfail || s.scanner.scan != .none then { s with scanner.due := true }
    else State.startScan .periodic i s

/-- SCAN_INTERVAL_EXPIRY (R152). -/
def execScanIntervalExpiry (s : State) : Host.Outcome State Fault Refusal :=
  State.within (fun s => if s.intervalExpired then State.takeExpiry s else s) s

/-- DUE_PERIODIC_SCAN_START (R152). -/
def execDuePeriodicScanStart (s : State) : Host.Outcome State Fault Refusal :=
  State.within State.startDueScan s

/-- The end of a periodic scan (R153). -/
def State.endPeriodicScan (s : State) : State :=
  let s1 :=
    { s with scanner.scan := .none, scanner.last := some s.scanner.region, scanner.count := 0 }
  if s.scanner.value = regionExpected s.anchor.live s.scanner.region then s1
  else State.raise (.scanMismatch s.scanner.region s.scanner.value) s1

/-- The end of a scan on request (R155). -/
def State.endRequestedScan (s : State) : State :=
  State.raise
    (.scanDone s.scanner.region s.scanner.value
      (regionAttr s.anchor.live s.scanner.region == .frozen &&
        s.scanner.value == regionExpected s.anchor.live s.scanner.region))
    { s with scanner.scan := .none }

/-- A scan read's words are folded in, and the scan goes on or ends (R150, R153, R155). -/
def State.foldScanRead (ws : List Word) (s : State) : State :=
  let s1 :=
    { s with
      scanner.value := ws.foldl foldScan s.scanner.value
      scanner.next := s.scanner.next + 8
      scanner.remaining := s.scanner.remaining - 8 }
  match s.scanner.scan with
  | .none => s
  | .periodic =>
    if s1.scanner.remaining = 0 then State.endPeriodicScan s1 else State.requestScanRead s1
  | .onRequest =>
    if s1.scanner.remaining = 0 then State.endRequestedScan s1 else State.requestScanRead s1

/-- SCAN_READ_COMPLETE (R150): the words of an abandoned scan are discarded (R156), and a scan
started meanwhile asks for its first read (R141; log entry 20). -/
def execScanReadComplete (s : State) : Host.Outcome State Fault Refusal :=
  State.outside
    (State.complete .scanRead (fun _ ws s =>
      if s.port.discard then State.requestScanRead { s with port.discard := false }
      else State.foldScanRead ws s)) s

end Sys2Proof.Machine
end

