-- ==== Sys2Proof/Machine/Forward.lean ====
section
/-! DEFINITION. The forward activity: FORWARD_WORK_START and the completions of its transfers. -/

namespace Sys2Proof.Machine

/-- The entry's data write: its words in their lanes, at consecutive positions in its block (R38). -/
def State.requestDataWrite (e : Entry) (s : State) : State :=
  State.request { purpose := .dataWrite, addr := e.block * 4 + e.first, body := .write e.words } s

/-- The retirement of an entry begins: with its block read when it owes an image, otherwise with
its data write (R38, R39, R56). -/
def State.beginRetire (e : Entry) (s : State) : State :=
  let s1 := { s with journal.forward := some (.retire e false) }
  if Tag.owesImage e.tag then
    State.request { purpose := .blockRead, addr := e.block * 4, body := .read 4 } s1
  else State.requestDataWrite e s1

/-- The group work is ready to proceed (R37). -/
def State.workReady (w : GroupWork) (s : State) : Bool :=
  match w with
  | .commit =>
    !s.queue.any (fun e => Tag.isGroup e.tag) && !s.accessIs AccessPhase.groupWritePending
  | .format => s.quiet
  | _ => true

/-- The next piece of the wipe: zero words up to the high-water, in transfers of up to eight, then
the wipe header (R44). `next` is the first offset not yet cleared. -/
def State.wipeStep (next : Nat) (s : State) : State :=
  let count := min 8 (s.highWater - next)
  let s1 := { s with journal.forward := some (.groupWork .opening (next + count)) }
  if count = 0 then State.requestHeader .wipeHeader 0 8 s1
  else State.requestJournalWrite .wipe next (List.replicate count 0) s1

/-- The anchor whose journal area the format step works on: the one about to become live, or the
live one (R46). -/
def State.formatAnchor (s : State) : List Word :=
  match s.anchor.job with
  | some j => if j.store then s.anchor.staging else s.anchor.live
  | none => s.anchor.live

/-- The header slots that the format step writes (R46). -/
def formatHeader (slot : Slot) : Header :=
  { serial := (match slot with
      | .a => 1
      | .b => 2),
    group := 0, highWater := 8, slot := slot }

/-- Offset and words of transfer k of the format step: the header slots, the rest of the area in
eights, slot A, slot B (R46). -/
def formatTransfer (anchor : List Word) (k : Nat) : Nat × List Word :=
  if k < 64 * anchorLength anchor then (8 * k, List.replicate 8 0)
  else if k = 64 * anchorLength anchor then (0, Header.words (formatHeader .a))
  else (4, Header.words (formatHeader .b))

/-- The forward activity requests transfer k of the format step (R46). -/
def State.requestFormat (k : Nat) (s : State) : State :=
  let t := formatTransfer s.formatAnchor k
  State.request
    { purpose := .format, addr := journalWord s.formatAnchor t.1, body := .write (bothLanes t.2) }
    { s with journal.forward := some (.groupWork .format k) }

/-- A piece of group work begins with its first transfer (R26, R30, R37, R43, R44, R46, R73, R108,
R110). While the bridge has no current header it accepts none but the format (R25). -/
def State.beginGroupWork (w : GroupWork) (s : State) : State :=
  let s1 := { s with journal.handed := none, journal.forward := some (.groupWork w 0) }
  match w with
  | .format => State.requestFormat 0 s1
  | _ =>
    match s.journal.header with
    | none => s
    | some h =>
      match w with
      | .opening =>
        if h.group = 4095 then State.wipeStep 8 s1
        else State.requestHeader .openingHeader (h.group + 1) h.highWater s1
      | .commit =>
        State.requestJournalWrite .commitRecord (imageOffset s.journal.written)
          (commitRecordWords h.group s.journal.written s.group.duration) s1
      | .closeRollback _ n =>
        State.requestHeader .rollbackHeader h.group (raisedHighWater h.highWater n) s1
      | .recoveryRewrite walkEnd => State.requestHeader .recoveryRewrite h.group walkEnd s1
      | .closeRecovery n =>
        State.requestHeader .recoveryClose h.group (raisedHighWater h.highWater n) s1
      | .format => s

/-- The head entry comes under retirement (R56). -/
def State.takeHead (s : State) : State :=
  match s.queue with
  | [] => s
  | e :: _ => State.beginRetire e s

/-- FORWARD_WORK_START (R37): the free forward activity takes ready group work first, and otherwise
the head entry. -/
def execForwardWorkStart (s : State) : Host.Outcome State Fault Refusal :=
  State.within
    (fun s =>
      match s.journal.forward with
      | some _ => s
      | none =>
        match s.journal.handed with
        | some w => if s.workReady w then State.beginGroupWork w s else State.takeHead s
        | none => State.takeHead s) s

/-- WIPE_TRANSFER_COMPLETE (R44). -/
def execWipeTransferComplete (s : State) : Host.Outcome State Fault Refusal :=
  State.outside
    (State.complete .wipe (fun _ _ s =>
      match s.journal.forward with
      | some (.groupWork .opening next) => State.wipeStep next s
      | _ => s)) s

/-- The opening header for the group after the current header's (R26, R43). -/
def State.requestOpeningHeader (s : State) : State :=
  State.requestHeader .openingHeader (s.groupNumber + 1) s.highWater s

/-- WIPE_HEADER_COMPLETE (R44): the opening work goes on with group 1. -/
def execWipeHeaderComplete (s : State) : Host.Outcome State Fault Refusal :=
  State.outside
    (State.complete .wipeHeader (fun _ _ s =>
      State.requestOpeningHeader (State.headerWritten s))) s

/-- OPENING_HEADER_COMPLETE (R26, R28): the OPEN record is requested at offset 8. -/
def execOpeningHeaderComplete (s : State) : Host.Outcome State Fault Refusal :=
  State.outside
    (State.complete .openingHeader (fun _ _ s =>
      let s1 := State.headerWritten s
      State.requestJournalWrite .openRecord 8
        (openRecordWords s1.groupNumber s1.ageLimit s1.capacity) s1)) s

/-- The controller leaves OPENING, the first matching row deciding (R11, R66, R67). -/
def State.leaveOpening (s : State) : State :=
  let s1 := { s with group.abortPending := false }
  if s.group.abortPending then
    State.startRollback s.groupNumber .abortCmd 0
      (State.enter .rollingBack { s1 with group.closePending := false, group.openPending := false })
  else if s.group.closePending then
    State.enterCommitting { s1 with group.closePending := false }
  else State.enter .groupOpen { s1 with group.age := 0 }

/-- OPEN_RECORD_COMPLETE (R11, R28). -/
def execOpenRecordComplete (s : State) : Host.Outcome State Fault Refusal :=
  State.outside
    (State.complete .openRecord (fun _ _ s =>
      State.leaveOpening { s with journal.forward := none })) s

/-- BLOCK_READ_COMPLETE (R39, R41): the IMAGE record carries the words just read; an aborted
entry's words are discarded. -/
def execBlockReadComplete (s : State) : Host.Outcome State Fault Refusal :=
  State.outside
    (State.complete .blockRead (fun _ ws s =>
      match s.journal.forward with
      | some (.retire e false) =>
        State.requestJournalWrite .imageWrite (imageOffset s.journal.written)
          (imageRecordWords (Tag.number e.tag) e.block ws) s
      | some (.retire _ true) => { s with journal.forward := none }
      | _ => s)) s

/-- The block is marked SAVED if it is in the set (R39, R41). -/
def markSaved (block : Nat) (saved : List SavedBlock) : List SavedBlock :=
  saved.map (fun b => if b.block = block then { b with state := .saved } else b)

/-- IMAGE_RECORD_COMPLETE (R33, R39, R41): the data write follows unless an abort was taken. -/
def execImageRecordComplete (s : State) : Host.Outcome State Fault Refusal :=
  State.outside
    (State.complete .imageWrite (fun _ _ s =>
      match s.journal.forward with
      | some (.retire e removed) =>
        let s1 :=
          { s with
            journal.written := s.journal.written + 1
            journal.saved := markSaved e.block s.journal.saved }
        if removed then { s1 with journal.forward := none }
        else State.requestDataWrite e { s1 with journal.reserved := s.journal.reserved - 1 }
      | _ => s)) s

/-- DATA_WRITE_COMPLETE (R38, R56): the entry leaves the queue. -/
def execDataWriteComplete (s : State) : Host.Outcome State Fault Refusal :=
  State.outside
    (State.complete .dataWrite (fun _ _ s =>
      { s with queue := s.queue.drop 1, journal.forward := none })) s

/-- COMMIT_RECORD_COMPLETE (R30, R31): the group is committed, and the closing header follows. -/
def execCommitRecordComplete (s : State) : Host.Outcome State Fault Refusal :=
  State.outside
    (State.complete .commitRecord (fun _ _ s =>
      State.requestHeader .commitHeader s.groupNumber
        (raisedHighWater s.highWater s.journal.written) s)) s

/-- The controller leaves COMMITTING (R13). -/
def State.leaveCommitting (s : State) : State :=
  if s.group.openPending then State.enterOpening { s with group.openPending := false }
  else State.enterIdle s

/-- COMMIT_HEADER_COMPLETE (R12, R13, R31). -/
def execCommitHeaderComplete (s : State) : Host.Outcome State Fault Refusal :=
  State.outside
    (State.complete .commitHeader (fun _ _ s =>
      let s1 := State.headerWritten s
      State.leaveCommitting
        (State.raise (.groupCommitted s1.groupNumber s1.journal.written)
          { s1 with journal.forward := none, journal.saved := [] }))) s

/-- The end of a rollback: ABORTED while GRP is high, otherwise IDLE (R16). -/
def State.leaveRollback (s : State) : State :=
  if s.lines.grp then State.enter .aborted s else State.enterIdle s

/-- ROLLBACK_HEADER_COMPLETE (R16, R73). -/
def execRollbackHeaderComplete (s : State) : Host.Outcome State Fault Refusal :=
  State.outside
    (State.complete .rollbackHeader (fun _ _ s =>
      match s.journal.forward with
      | some (.groupWork (.closeRollback cause n) _) =>
        let s1 := State.headerWritten s
        State.leaveRollback
          (State.raise (.groupAborted s1.groupNumber cause n)
            { s1 with journal.forward := none, journal.saved := [] })
      | _ => s)) s

/-- RECOVERY_HEADER_REWRITE_COMPLETE (R108, R111). -/
def execRecoveryHeaderRewriteComplete (s : State) : Host.Outcome State Fault Refusal :=
  State.outside
    (State.complete .recoveryRewrite (fun _ _ s =>
      State.finishRecovery { State.headerWritten s with journal.forward := none })) s

/-- RECOVERY_CLOSING_HEADER_COMPLETE (R110, R111). -/
def execRecoveryClosingHeaderComplete (s : State) : Host.Outcome State Fault Refusal :=
  State.outside
    (State.complete .recoveryClose (fun _ _ s =>
      match s.journal.forward with
      | some (.groupWork (.closeRecovery n) _) =>
        let s1 := State.headerWritten s
        State.finishRecovery
          (State.raise (.recovered s1.groupNumber n) { s1 with journal.forward := none })
      | _ => s)) s

end Sys2Proof.Machine
end

