-- ==== Sys2Proof/Machine/Store.lean ====
section
/-! DEFINITION. The work of CONFIGURING: STORE_ANCHOR, FORMAT, STORE_WORK_START,
HEADER_SLOT_CLEAR_COMPLETE, ANCHOR_WRITE_TRANSFER_COMPLETE, FORMAT_TRANSFER_COMPLETE. -/

namespace Sys2Proof.Machine

/-- Entry to CONFIGURING (R91, R97, R156). -/
def State.enterConfiguring (job : ConfigJob) (s : State) : State :=
  State.enter .configuring { State.idleScanner s with anchor.job := some job }

/-- The store formats the journal area (R93). -/
def State.storeFormats (s : State) : Bool :=
  s.group.state != .idle || anchorBase s.anchor.staging != anchorBase s.anchor.live ||
    anchorLength s.anchor.staging != anchorLength s.anchor.live

/-- STORE_ANCHOR taken (R89, R90, R91). -/
def State.takeStoreAnchor (s : State) : State :=
  if (s.group.state == .idle || s.group.state == .unconfigured || s.group.state == .halted) &&
      s.power == .normal then
    match storeFault s.anchor.staging s.anchor.live (s.group.state != .unconfigured) with
    | some reason => State.answerInvalid .storeAnchor reason s
    | none =>
      State.answer .storeAnchor .started []
        (State.enterConfiguring
          { store := true, formats := s.storeFormats,
            fromUnconfigured := s.group.state == .unconfigured, stage := .waitingQuiet } s)
  else State.answer .storeAnchor .busy [] s

/-- STORE_ANCHOR (R89). -/
def execStoreAnchor (s : State) : Host.Outcome State Fault Refusal :=
  State.outside (State.inFrame State.takeStoreAnchor) s

/-- FORMAT taken (R97): the format step is handed to the forward activity, ready once the queue is
quiet (R37). -/
def State.takeFormat (s : State) : State :=
  if (s.group.state == .idle || s.group.state == .halted) && s.power == .normal then
    State.answer .format .started []
      (State.enterConfiguring
        { store := false, formats := true, fromUnconfigured := false, stage := .waitingQuiet }
        { s with journal.handed := some .format })
  else State.answer .format .busy [] s

/-- FORMAT (R97). -/
def execFormat (s : State) : Host.Outcome State Fault Refusal :=
  State.outside (State.inFrame State.takeFormat) s

/-- The job of CONFIGURING at a stage. -/
def State.setStage (j : ConfigJob) (stage : JobStage) (s : State) : State :=
  { s with anchor.job := some { j with stage := stage } }

/-- First word and words of transfer k of the anchor write, k from 1 to 7 (R92): word 0 is written
as 0000h first and as the mark last. -/
def anchorTransfer (staging : List Word) (k : Nat) : Nat × List Word :=
  if k = 1 then (0, (0 : Word) :: (staging.drop 1).take 7)
  else if k = 7 then (0, [Config.formatMark])
  else (8 * (k - 1), (staging.drop (8 * (k - 1))).take 8)

/-- The anchor unit requests transfer k of the anchor write (R92). -/
def State.requestAnchorWrite (j : ConfigJob) (k : Nat) (s : State) : State :=
  let t := anchorTransfer s.anchor.staging k
  State.request { purpose := .anchorWrite, addr := t.1, body := .write (bothLanes t.2) }
    (State.setStage j (.writingAnchor k) s)

/-- The anchor write begins: the staging copy's mark and check word are filled in (R92). -/
def State.beginAnchorWrite (j : ConfigJob) (s : State) : State :=
  State.requestAnchorWrite j 1 { s with anchor.staging := completedAnchor s.anchor.staging }

/-- The clearing of the new header slots (R93). -/
def State.requestSlotClear (j : ConfigJob) (s : State) : State :=
  State.request
    { purpose := .slotClear, addr := journalWord s.anchor.staging 0,
      body := .write (bothLanes (List.replicate 8 0)) }
    (State.setStage j .clearingSlots s)

/-- STORE_WORK_START (R91): the queue is quiet, and the store's memory work begins. -/
def execStoreWorkStart (s : State) : Host.Outcome State Fault Refusal :=
  State.within
    (fun s =>
      match s.anchor.job with
      | some j =>
        if s.group.state == .configuring && j.store && j.stage == .waitingQuiet && s.quiet then
          if j.formats then State.requestSlotClear j s else State.beginAnchorWrite j s
        else s
      | none => s) s

/-- HEADER_SLOT_CLEAR_COMPLETE (R92, R93). -/
def execHeaderSlotClearComplete (s : State) : Host.Outcome State Fault Refusal :=
  State.outside
    (State.complete .slotClear (fun _ _ s =>
      match s.anchor.job with
      | some j => State.beginAnchorWrite j s
      | none => s)) s

/-- The time base starts at a switch from UNCONFIGURED; otherwise the period in progress goes on
(R17, R94). -/
def State.switchTimeBase (j : ConfigJob) (s : State) : State :=
  if j.fromUnconfigured then State.startTimeBase s else s

/-- The switch to the new anchor (R94). -/
def State.switchAnchor (j : ConfigJob) (s : State) : State :=
  State.enterIdle
    (State.raise (.anchorStored j.formats)
      (State.switchTimeBase j
        { s with
          anchor.live := s.anchor.staging
          anchor.isLive := true
          anchor.job := none
          events.mask := maskOf (anchorMask s.anchor.staging) }))

/-- ANCHOR_WRITE_TRANSFER_COMPLETE (R92, R93, R94): the next transfer, the format step or the
switch. -/
def execAnchorWriteTransferComplete (s : State) : Host.Outcome State Fault Refusal :=
  State.outside
    (State.complete .anchorWrite (fun _ _ s =>
      match s.anchor.job with
      | some j =>
        match j.stage with
        | .writingAnchor k =>
          if k < 7 then State.requestAnchorWrite j (k + 1) s
          else if j.formats then
            State.setStage j .formatting { s with journal.handed := some .format }
          else State.switchAnchor j s
        | _ => s
      | none => s)) s

/-- The format step is reported complete (R46, R94, R97): a store switches to its anchor; a FORMAT
raises ANCHOR_STORED and enters IDLE. -/
def State.endFormat (s : State) : State :=
  let s1 := { s with journal.forward := none, journal.header := some (formatHeader .b) }
  match s.anchor.job with
  | some j =>
    if j.store then State.switchAnchor j s1
    else State.enterIdle (State.raise (.anchorStored true) { s1 with anchor.job := none })
  | none => s1

/-- FORMAT_TRANSFER_COMPLETE (R46). -/
def execFormatTransferComplete (s : State) : Host.Outcome State Fault Refusal :=
  State.outside
    (State.complete .format (fun _ _ s =>
      match s.journal.forward with
      | some (.groupWork .format k) =>
        if k ≤ 64 * anchorLength s.formatAnchor then State.requestFormat (k + 1) s
        else State.endFormat s
      | _ => s)) s

end Sys2Proof.Machine
end

