-- ==== Sys2Proof/Machine/Dispatch.lean ====
section
/-! DEFINITION. One arm per command: its meaning. -/

namespace Sys2Proof.Machine

def exec (i : Instr) (s : State) : Host.Outcome State Fault Refusal :=
  match i with
  | .powerOn straps => Sys2Proof.Machine.execPowerOn straps s
  | .powerLoss wordsWritten => Sys2Proof.Machine.execPowerLoss wordsWritten s
  | .rstAssertion => Sys2Proof.Machine.execRstAssertion s
  | .rstRelease straps => Sys2Proof.Machine.execRstRelease straps s
  | .grpRise => Sys2Proof.Machine.execGrpRise s
  | .grpFall => Sys2Proof.Machine.execGrpFall s
  | .pfailAssertion => Sys2Proof.Machine.execPfailAssertion s
  | .pfailDeassertion => Sys2Proof.Machine.execPfailDeassertion s
  | .lselDeassertion bits => Sys2Proof.Machine.execLselDeassertion bits s
  | .status => Sys2Proof.Machine.execStatus s
  | .nextEvent => Sys2Proof.Machine.execNextEvent s
  | .abortGroup => Sys2Proof.Machine.execAbortGroup s
  | .setMask mask => Sys2Proof.Machine.execSetMask mask s
  | .readLive offset count => Sys2Proof.Machine.execReadLive offset count s
  | .readStage offset count => Sys2Proof.Machine.execReadStage offset count s
  | .stage offset count words => Sys2Proof.Machine.execStage offset count words s
  | .copyLiveToStage => Sys2Proof.Machine.execCopyLiveToStage s
  | .storeAnchor => Sys2Proof.Machine.execStoreAnchor s
  | .format => Sys2Proof.Machine.execFormat s
  | .readJournal offset count => Sys2Proof.Machine.execReadJournal offset count s
  | .scanRegion index => Sys2Proof.Machine.execScanRegion index s
  | .unknownCommand code => Sys2Proof.Machine.execUnknownCommand code s
  | .badCheckFrame part => Sys2Proof.Machine.execBadCheckFrame part s
  | .hostAddressPhase p => Sys2Proof.Machine.execHostAddressPhase p s
  | .hostDataPhase data => Sys2Proof.Machine.execHostDataPhase data s
  | .heldAccessRelease => Sys2Proof.Machine.execHeldAccessRelease s
  | .waitingWriteTakesPlace => Sys2Proof.Machine.execWaitingWriteTakesPlace s
  | .queuedReadProceeds => Sys2Proof.Machine.execQueuedReadProceeds s
  | .tick => Sys2Proof.Machine.execTick s
  | .ageTimeout => Sys2Proof.Machine.execAgeTimeout s
  | .scanIntervalExpiry => Sys2Proof.Machine.execScanIntervalExpiry s
  | .duePeriodicScanStart => Sys2Proof.Machine.execDuePeriodicScanStart s
  | .forwardWorkStart => Sys2Proof.Machine.execForwardWorkStart s
  | .storeWorkStart => Sys2Proof.Machine.execStoreWorkStart s
  | .backwardActivityStart => Sys2Proof.Machine.execBackwardActivityStart s
  | .anchorLoadComplete => Sys2Proof.Machine.execAnchorLoadComplete s
  | .headerSlotsReadComplete => Sys2Proof.Machine.execHeaderSlotsReadComplete s
  | .walkReadComplete => Sys2Proof.Machine.execWalkReadComplete s
  | .recoveryHeaderRewriteComplete => Sys2Proof.Machine.execRecoveryHeaderRewriteComplete s
  | .recoveryClosingHeaderComplete => Sys2Proof.Machine.execRecoveryClosingHeaderComplete s
  | .wipeTransferComplete => Sys2Proof.Machine.execWipeTransferComplete s
  | .wipeHeaderComplete => Sys2Proof.Machine.execWipeHeaderComplete s
  | .openingHeaderComplete => Sys2Proof.Machine.execOpeningHeaderComplete s
  | .openRecordComplete => Sys2Proof.Machine.execOpenRecordComplete s
  | .blockReadComplete => Sys2Proof.Machine.execBlockReadComplete s
  | .imageRecordComplete => Sys2Proof.Machine.execImageRecordComplete s
  | .dataWriteComplete => Sys2Proof.Machine.execDataWriteComplete s
  | .commitRecordComplete => Sys2Proof.Machine.execCommitRecordComplete s
  | .commitHeaderComplete => Sys2Proof.Machine.execCommitHeaderComplete s
  | .imageRecordReadComplete => Sys2Proof.Machine.execImageRecordReadComplete s
  | .restoreBlockWriteComplete => Sys2Proof.Machine.execRestoreBlockWriteComplete s
  | .undoneRecordComplete => Sys2Proof.Machine.execUndoneRecordComplete s
  | .rollbackHeaderComplete => Sys2Proof.Machine.execRollbackHeaderComplete s
  | .hostReadTransferComplete => Sys2Proof.Machine.execHostReadTransferComplete s
  | .headerSlotClearComplete => Sys2Proof.Machine.execHeaderSlotClearComplete s
  | .anchorWriteTransferComplete => Sys2Proof.Machine.execAnchorWriteTransferComplete s
  | .formatTransferComplete => Sys2Proof.Machine.execFormatTransferComplete s
  | .scanReadComplete => Sys2Proof.Machine.execScanReadComplete s
  | .linkJournalReadComplete => Sys2Proof.Machine.execLinkJournalReadComplete s
  | .safeEntry => Sys2Proof.Machine.execSafeEntry s
  | .lselAssertion => Sys2Proof.Machine.execLselAssertion s

end Sys2Proof.Machine
end

