-- ==== Sys2Proof/Safety.lean ====
section
/-! DEFINITION. What counts as a sound state of the bridge, in the terms the claims use: the
invariants that every step keeps, and the frames of a command. -/

namespace Sys2Proof.Machine

/-- A running bridge that is given a command from outside, or the completion of a transfer, takes
it in `s0`: the state in which the moment before it has closed (log entry 5). -/
def State.closesTo (s s0 : State) : Prop := s.running = true ∧ s0 = State.settle s

/-- The state in which the transfer in flight has just completed whole (R140). -/
def State.completed (t : Transfer) (s : State) : State :=
  { s with port.inFlight := none, mem := Transfer.memoryAfter t s.mem }

/-- A running bridge is given a completion, and the transfer in flight has the purpose of it. -/
def State.completes (p : Purpose) (t : Transfer) (s s0 : State) : Prop :=
  State.closesTo s s0 ∧ s0.port.inFlight = some t ∧ t.purpose = p

/-- The commands that are taken whatever the supply and RST are: the supply, and the levels of the
lines. -/
def isLineEvent (i : Instr) : Bool :=
  match i with
  | .powerOn _ => true
  | .powerLoss _ => true
  | .rstAssertion => true
  | .rstRelease _ => true
  | .grpRise => true
  | .grpFall => true
  | .pfailAssertion => true
  | .pfailDeassertion => true
  | .lselAssertion => true
  | .lselDeassertion _ => true
  | _ => false

/-- The counters stay within their ranges (R18, R19, R149). -/
def State.countersFit (s : State) : Prop :=
  s.group.age ≤ 65535 ∧ s.group.duration ≤ 65535 ∧ s.scanner.count ≤ 65535

/-- A response part sums to 5Ah (R167). -/
def State.responseSound (s : State) : Prop :=
  s.link.response ≠ [] → byteSum s.link.response = Config.frameSum

/-- The queue's places: at most eight entries, and a forming access whose entry is still to come
has its place (R47, R50). -/
def State.queueFits (s : State) : Prop :=
  s.queue.length ≤ 8 ∧
    ∀ a, s.host.access = some a → ∀ p, a.phase = .forming p → s.queue.length < 8

/-- The pending set: one entry a kind, in priority order, and no repeat count above 255 (R158). -/
def State.eventsSound (s : State) : Prop :=
  s.events.pendingSet.Pairwise (fun x y => Event.priority x.event < Event.priority y.event) ∧
    ∀ p ∈ s.events.pendingSet, p.repeats ≤ 255

/-- The saved-block set: at most 32 entries, no block twice (R32). -/
def State.savedSound (s : State) : Prop :=
  s.journal.saved.length ≤ 32 ∧
    s.journal.saved.Pairwise (fun x y => x.block ≠ y.block)

/-- A write that has a claim on the queue: it forms its entry or waits for a place. -/
def AccessPhase.postPending (p : AccessPhase) : Bool :=
  match p with
  | .forming _ => true
  | .waiting _ => true
  | _ => false

/-- No entry of the queue, and no access that will form one, names a block of the anchor area
(R52, R83). -/
def State.anchorAreaUnqueued (s : State) : Prop :=
  (∀ e ∈ s.queue, 10 < e.block) ∧
    ∀ a, s.host.access = some a → a.phase.postPending = true → 10 < Access.block a

/-- While RST is asserted the port, the queue and the host port are empty and the group state is
RECOVERING (R100, R145). -/
def State.restsUnderReset (s : State) : Prop :=
  s.lines.powered = true → s.lines.rst = true →
    s.port.inFlight = none ∧ s.port.requests = Requests.empty ∧ s.queue = [] ∧
      s.host.access = none ∧ s.group.state = .recovering

/-- The power condition: SAFE only with power applied, PFAIL asserted and no memory work pending;
NORMAL exactly while PFAIL is deasserted (R116, R121). -/
def State.powerSound (s : State) : Prop :=
  (s.power = .safe → s.lines.powered = true ∧ s.lines.pfail = true ∧ s.workPending = false) ∧
    (s.lines.powered = true → (s.power = .normal ↔ s.lines.pfail = false)) ∧
    (s.lines.powered = false → s.power = .normal)

/-- The transfer in flight once the moment has closed: the one a command can complete or cut. -/
def State.transferNow (s : State) : Option Transfer :=
  (if s.running then State.settle s else s).port.inFlight

/-- The command that completes a transfer of this purpose (the completion rows of the table). -/
def Purpose.completion (p : Purpose) : Instr :=
  match p with
  | .anchorLoad => .anchorLoadComplete
  | .slotsRead => .headerSlotsReadComplete
  | .walkRead => .walkReadComplete
  | .imageRead => .imageRecordReadComplete
  | .restoreWrite => .restoreBlockWriteComplete
  | .undoneWrite => .undoneRecordComplete
  | .recoveryRewrite => .recoveryHeaderRewriteComplete
  | .recoveryClose => .recoveryClosingHeaderComplete
  | .wipe => .wipeTransferComplete
  | .wipeHeader => .wipeHeaderComplete
  | .openingHeader => .openingHeaderComplete
  | .openRecord => .openRecordComplete
  | .blockRead => .blockReadComplete
  | .imageWrite => .imageRecordComplete
  | .dataWrite => .dataWriteComplete
  | .commitRecord => .commitRecordComplete
  | .commitHeader => .commitHeaderComplete
  | .rollbackHeader => .rollbackHeaderComplete
  | .hostRead => .hostReadTransferComplete
  | .slotClear => .headerSlotClearComplete
  | .anchorWrite => .anchorWriteTransferComplete
  | .format => .formatTransferComplete
  | .scanRead => .scanReadComplete
  | .linkRead => .linkJournalReadComplete

/-- Both anchor copies have 42 words (R86, R87). -/
def State.copiesWhole (s : State) : Prop :=
  s.anchor.live.length = 42 ∧ s.anchor.staging.length = 42

/-! ## The work in progress, and the reservations -/

/-- A transfer is in flight or waits for the port. -/
def State.carries (s : State) (t : Transfer) : Prop :=
  s.port.inFlight = some t ∨ ∃ q, Requests.get s.port.requests q = some t

/-- The forward activity does the group work (R37). -/
def State.doesWork (s : State) (w : GroupWork) : Prop :=
  ∃ k, s.journal.forward = some (.groupWork w k)

/-- The forward activity does no group work. -/
def State.noGroupWork (s : State) : Prop := ∀ w, ¬ s.doesWork w

/-- The group state whose work a piece of group work is (R37, R73, R94, R108, R110). -/
def GroupWork.stateOf : GroupWork → GroupState
  | .opening => .opening
  | .commit => .committing
  | .closeRollback _ _ => .rollingBack
  | .recoveryRewrite _ => .recovering
  | .closeRecovery _ => .recovering
  | .format => .configuring

/-- What its requester is at while a transfer of this purpose is in flight or waits (R140, R141). -/
def Purpose.fits (p : Purpose) (s : State) : Prop :=
  match p with
  | .anchorLoad => s.group.state = .recovering ∧ s.journal.backward = .idle ∧
      s.journal.handed = none ∧ s.noGroupWork
  | .slotsRead => s.journal.backward = .headerChoice
  | .walkRead => ∃ position blocks, s.journal.backward = .walk position blocks
  | .imageRead => ∃ r, s.journal.backward = .restoring r
  | .restoreWrite => ∃ r, s.journal.backward = .restoring r
  | .undoneWrite => ∃ r, s.journal.backward = .restoring r
  | .recoveryRewrite => ∃ n, s.doesWork (.recoveryRewrite n)
  | .recoveryClose => ∃ n, s.doesWork (.closeRecovery n)
  | .wipe => s.doesWork .opening
  | .wipeHeader => s.doesWork .opening
  | .openingHeader => s.doesWork .opening
  | .openRecord => s.doesWork .opening
  | .blockRead => ∃ e r, s.journal.forward = some (.retire e r) ∧ Tag.owesImage e.tag = true
  | .imageWrite => ∃ e r, s.journal.forward = some (.retire e r) ∧ Tag.owesImage e.tag = true
  | .dataWrite => ∃ e, s.journal.forward = some (.retire e false)
  | .commitRecord => s.doesWork .commit
  | .commitHeader => s.doesWork .commit
  | .rollbackHeader => ∃ cause n, s.doesWork (.closeRollback cause n)
  | .hostRead => ∃ a, s.host.access = some a ∧ a.phase = .readRequested
  | .slotClear => ∃ j, s.anchor.job = some j ∧ j.store = true ∧ j.stage = .clearingSlots
  | .anchorWrite => ∃ j k, s.anchor.job = some j ∧ j.store = true ∧ j.stage = .writingAnchor k
  | .format => s.doesWork .format
  | .scanRead => s.scanner.scan ≠ .none ∨ (s.port.discard = true ∧ s.inFlightIs .scanRead = true)
  | .linkRead => s.link.read ≠ .none

/-- The group state in which the backward activity is at this (R67, R103). -/
def Backward.fits (b : Backward) (g : GroupState) : Prop :=
  match b with
  | .idle => True
  | .headerChoice => g = .recovering
  | .walk _ _ => g = .recovering
  | .rollbackDue _ cause => g = .rollingBack ∧ cause ≠ .recovery
  | .restoring r => g = if r.cause = .recovery then .recovering else .rollingBack

/-- The work in progress is one thread of the group state's own: each requester asks for its own
transfers and has one at a time (R141); a transfer is for what its requester is at; group work, the
backward activity and a store or format belong to the group state, and no two of them are under way
at once (R37, R67, R91, R103). -/
def State.workSound (s : State) : Prop :=
  (∀ q t, Requests.get s.port.requests q = some t →
    Purpose.requester t.purpose = q ∧ s.inFlightFor q = false) ∧
  (∀ t, s.carries t → Purpose.fits t.purpose s) ∧
  (∀ w, s.doesWork w →
    s.group.state = w.stateOf ∧ s.journal.handed = none ∧ s.journal.backward = .idle) ∧
  (∀ w, s.journal.handed = some w →
    s.group.state = w.stateOf ∧ s.journal.backward = .idle) ∧
  s.journal.backward.fits s.group.state ∧
  (s.group.state = .configuring ↔ s.anchor.job ≠ none) ∧
  (∀ j, s.anchor.job = some j → j.store = true → j.stage ≠ .formatting →
    s.journal.handed = none ∧ s.noGroupWork)

/-- A data write is in flight or waits: the head entry owes its image no longer (R39). -/
def State.dataWriting (s : State) : Bool :=
  s.inFlightIs .dataWrite ||
    (match s.port.requests.forward with
     | some t => t.purpose == .dataWrite
     | none => false)

/-- The access has been promised an image and has not formed its entry (R34, R53). -/
def AccessPhase.owesImage (p : AccessPhase) : Bool :=
  match p with
  | .waiting post => Tag.owesImage post.tag
  | .forming post => Tag.owesImage post.tag
  | _ => false

/-- The images promised to group writes whose IMAGE records are not complete (R33). -/
def State.owedImages (s : State) : Nat :=
  (if s.dataWriting then s.queue.drop 1 else s.queue).countP (fun e => Tag.owesImage e.tag) +
    if s.accessIs AccessPhase.owesImage then 1 else 0

/-- The group states in which a group is being formed or closed by commit (R34). -/
def GroupState.holdsGroup (g : GroupState) : Prop :=
  g = .opening ∨ g = .groupOpen ∨ g = .committing

/-- The reservations (R32, R33, R34): images reserved counts the images still owed, and is 0 outside
OPEN and COMMITTING; written and reserved together stay within the capacity while a group is held;
the saved-block set is empty in the six states of R32. The rest says where a retirement stands
(R41, R56, R67) and what the commit work has waited for (R12, R37). -/
def State.reservationSound (s : State) : Prop :=
  s.owedImages = s.journal.reserved ∧
  (s.group.state ≠ .groupOpen → s.group.state ≠ .committing → s.journal.reserved = 0) ∧
  (s.group.state.holdsGroup → s.journal.written + s.journal.reserved ≤ s.capacity) ∧
  (¬ s.group.state.holdsGroup → s.group.state ≠ .rollingBack → s.journal.saved = []) ∧
  (∀ e, s.journal.forward = some (.retire e false) → s.queue.head? = some e) ∧
  (∀ e, s.journal.forward = some (.retire e true) →
    s.inFlightFor .forward = true ∧ ∃ g cause, s.journal.backward = .rollbackDue g cause) ∧
  (s.doesWork .commit →
    (∀ e ∈ s.queue, Tag.isGroup e.tag = false) ∧
      s.accessIs AccessPhase.groupWritePending = false)

/-- The byte addresses a transfer stores to: both bytes of each of its words if it writes
(R140). -/
def Transfer.stores (t : Transfer) (a : Nat) : Prop :=
  match t.body with
  | .read _ => False
  | .write ws => 2 * t.addr ≤ a ∧ a < 2 * (t.addr + ws.length)

end Sys2Proof.Machine
end

