-- ==== Sys2Proof/Certificates/Slice0/Obligations.lean ====
section
/-! DEFINITION. The statements for the provers. Each docstring names the rules a statement
formalises. `s` is the state when a command is sent and `s0` the state in which it is taken
(`State.closesTo`); a conclusion that writes the next state as an update of `s0` says that
everything not named in the update, memory included, is unchanged. -/

open Sys2Proof Sys2Proof.Machine

/-! ## The step -/

/-- A step takes the command at the front of the queue and runs it on the state with the queue's
rest; on an empty queue a running bridge closes the moment (log entry 6). -/
def Obligations.StepTakesFrontCommand : Prop :=
  (∀ (c : Instr) (rest : List Instr) (s : State), s.pending = c :: rest →
      step s = exec c { s with pending := rest }) ∧
  (∀ s : State, s.pending = [] →
      step s = .next (if s.running then State.finish (State.settle s) else s))

/-- What every block holds after power-on (the table of R99, R100, R101, R145, R149, R169). The
levels of the input lines and the anchor load's first read in flight are the model's choice of moment
(log entries 1 and 7), and the link's filler count, the region index, the next word, the words
remaining and the running value of 0 are its choices too (log entry 22). -/
def Obligations.ResetValues : Prop :=
  State.reset.group.state = .recovering ∧ State.failLine State.reset = true ∧
  State.reset.group.closePending = false ∧ State.reset.group.openPending = false ∧
  State.reset.group.abortPending = false ∧
  State.reset.group.age = 0 ∧ State.reset.group.duration = 0 ∧
  State.reset.group.timeRunning = false ∧ State.reset.group.clkCount = 0 ∧
  State.reset.queue = [] ∧ State.reset.host.access = none ∧
  State.reset.journal.header = none ∧ State.reset.journal.saved = [] ∧
  State.reset.journal.written = 0 ∧ State.reset.journal.reserved = 0 ∧
  State.reset.journal.forward = none ∧ State.reset.journal.backward = .idle ∧
  State.reset.anchor.isLive = false ∧
  State.reset.anchor.live = List.replicate 42 0 ∧
  State.reset.anchor.staging = List.replicate 42 0 ∧ State.reset.anchor.job = none ∧
  State.reset.scanner.scan = .none ∧ State.reset.scanner.count = 0 ∧
  State.reset.scanner.due = false ∧ State.reset.scanner.last = none ∧
  State.reset.scanner.region = 0 ∧ State.reset.scanner.next = 0 ∧
  State.reset.scanner.remaining = 0 ∧ State.reset.scanner.value = 0 ∧
  State.reset.events.pendingSet = [] ∧ State.reset.events.mask = 0x5FF#11 ∧
  State.intLine State.reset = false ∧
  State.reset.link.code = 0 ∧ State.reset.link.status = 0 ∧ State.reset.link.reason = 0 ∧
  State.reset.link.frame = .none ∧ State.reset.link.fillers = 0 ∧
  State.reset.link.read = .none ∧ State.reset.power = .normal ∧
  State.reset.port.requests = Requests.empty ∧
  State.reset.port.inFlight =
    some { purpose := .anchorLoad, addr := 0, body := .read 8 }

/-- The invariants that every step keeps hold at reset. -/
def Obligations.ResetMeetsInvariants : Prop :=
  State.reset.mem.wf ∧ State.reset.queueFits ∧ State.reset.eventsSound ∧
  State.reset.savedSound ∧ State.reset.anchorAreaUnqueued ∧ State.reset.restsUnderReset ∧
  State.reset.powerSound ∧ State.reset.countersFit ∧ State.reset.responseSound ∧
  State.reset.workSound ∧ State.reset.reservationSound ∧ State.reset.copiesWhole

/-! ## Link frames as bytes -/

/-- Every well-formed link command, sent as its command part, is read back as itself (R165, R166,
R179). -/
def Obligations.LinkPartRoundTrip : Prop :=
  ∀ i : Instr, Instr.wf i = true → Instr.isLinkPart i = true →
    decodePart (encodePart i) = some i

/-- Whatever bytes the link reads as a command part, they are the bytes of the command it reads:
no byte is dropped, and no two commands share a part (R165, R166). -/
def Obligations.LinkPartBytesRecovered : Prop :=
  ∀ (bytes : List Byte) (i : Instr), decodePart bytes = some i →
    Instr.wf i = true ∧ Instr.isLinkPart i = true ∧ encodePart i = bytes

/-- Command parts written out from R165, R166 and R179: STATUS, SET_MASK 05FFh, STAGE of words
000Fh and 01F4h at offset 6, READ_JOURNAL of 4 words at offset 0, the unknown byte FFh, a STATUS
with a wrong check byte, and a STATUS whose check byte has not come. -/
def Obligations.WorkedLinkFrames : Prop :=
  decodePart [0x01, 0x59] = some .status ∧
  decodePart [0x04, 0x05, 0xFF, 0x52] = some (.setMask 0x05FF) ∧
  decodePart [0x07, 0x06, 0x02, 0x00, 0x0F, 0x01, 0xF4, 0x47] =
    some (.stage 0x06 0x02 [0x000F, 0x01F4]) ∧
  decodePart [0x0B, 0x00, 0x00, 0x04, 0x4B] = some (.readJournal 0 0x04) ∧
  decodePart [0xFF] = some (.unknownCommand 0xFF) ∧
  decodePart [0x01, 0x5A] = some (.badCheckFrame [0x01, 0x5A]) ∧
  decodePart [0x01] = none

/-! ## Memory -/

/-- A transfer that completes whole (R38, R140): a read changes nothing and gives the words in
ascending order; a write stores each word in the lanes of its lane set and changes no other
byte. -/
def Obligations.TransferEffect : Prop :=
  (∀ (t : Transfer) (m : Memory) (n : Nat), t.body = .read n →
      Transfer.memoryAfter t m = m ∧ (Transfer.wordsRead t m).length = n ∧
      ∀ i, i < n → (Transfer.wordsRead t m).getD i 0 =
        Memory.read m (2 * (t.addr + i) + 1) ++ Memory.read m (2 * (t.addr + i))) ∧
  (∀ (t : Transfer) (m : Memory) (ws : List (LaneSet × Word)), m.wf → t.body = .write ws →
      (∀ a, ¬ t.stores a → Memory.read (Transfer.memoryAfter t m) a = Memory.read m a) ∧
      ∀ i, i < ws.length →
        Memory.read (Transfer.memoryAfter t m) (2 * (t.addr + i)) =
          (if (ws.getD i (.none, 0)).1 = .low ∨ (ws.getD i (.none, 0)).1 = .both
           then (ws.getD i (.none, 0)).2.extractLsb' 0 8
           else Memory.read m (2 * (t.addr + i))) ∧
        Memory.read (Transfer.memoryAfter t m) (2 * (t.addr + i) + 1) =
          (if (ws.getD i (.none, 0)).1 = .high ∨ (ws.getD i (.none, 0)).1 = .both
           then (ws.getD i (.none, 0)).2.extractLsb' 8 8
           else Memory.read m (2 * (t.addr + i) + 1)))

/-- A transfer that loss of power cuts after `done` words (R146): the words before hold what the
whole transfer would have left, the words after hold their old contents, whatever value the word
being written takes; a cut read has no effect. -/
def Obligations.CutTransfer : Prop :=
  (∀ (t : Transfer) (m : Memory) (n done : Nat) (torn : Word), t.body = .read n →
      Transfer.memoryCut t done torn m = m) ∧
  (∀ (t : Transfer) (m : Memory) (ws : List (LaneSet × Word)) (done : Nat) (torn : Word) (a : Nat),
      m.wf → t.body = .write ws →
      (a < 2 * (t.addr + done) →
        Memory.read (Transfer.memoryCut t done torn m) a =
          Memory.read (Transfer.memoryAfter t m) a) ∧
      (2 * (t.addr + done) + 2 ≤ a →
        Memory.read (Transfer.memoryCut t done torn m) a = Memory.read m a))

/-- The memory keeps its canonical form in every step. -/
def Obligations.MemoryCanonicalKept : Prop :=
  ∀ s t : State, s.mem.wf → step s = .next t → t.mem.wf

/-- No command changes a byte of memory, except in the words that the transfer in flight writes
(R140, R146). Only the completion of the write in flight, loss of power and RST assertion store
anything: every other command leaves the whole memory as it was. -/
def Obligations.MemoryChangesOnlyByTransfer : Prop :=
  (∀ (c : Instr) (s t : State) (a : Nat), s.mem.wf → exec c s = .next t →
    (∀ tr, s.transferNow = some tr → ¬ tr.stores a) →
    Memory.read t.mem a = Memory.read s.mem a) ∧
  (∀ (c : Instr) (s t : State), exec c s = .next t →
    c ≠ .rstAssertion → (∀ n, c ≠ .powerLoss n) →
    (∀ tr ws, s.transferNow = some tr → tr.body = .write ws → c ≠ Purpose.completion tr.purpose) →
    t.mem = s.mem)

/-! ## Invariants of every step -/

/-- The posting queue never holds more than 8 entries, and a forming access has its place
(R47, R50). -/
def Obligations.QueueFitsKept : Prop :=
  ∀ s t : State, s.queueFits → step s = .next t → t.queueFits

/-- The pending set keeps at most one entry of each kind, in priority order, and no repeat count
above 255 (R158). -/
def Obligations.EventsSoundKept : Prop :=
  ∀ s t : State, s.eventsSound → step s = .next t → t.eventsSound

/-- The saved-block set never holds more than 32 entries and never the same block twice, and is empty
in IDLE, ABORTED, HALTED, UNCONFIGURED, RECOVERING and CONFIGURING (R32). Images reserved counts the
images promised and not yet complete, and is 0 outside OPEN and COMMITTING (R33). Images written and
images reserved together never exceed the image capacity in OPENING, OPEN and COMMITTING (R34). The
last two need the work in progress to be sound, an invariant of its own. -/
def Obligations.SavedSetAndReservationsKept : Prop :=
  (∀ s t : State, s.savedSound → step s = .next t → t.savedSound) ∧
  (∀ s t : State, s.workSound → s.reservationSound → step s = .next t → t.reservationSound)

/-- No queue entry, and no access that may form one, names a block of the anchor area (R52, R83). -/
def Obligations.AnchorAreaUnqueuedKept : Prop :=
  ∀ s t : State, s.anchorAreaUnqueued → step s = .next t → t.anchorAreaUnqueued

/-- SAFE is held only under PFAIL with no memory work pending, and while RST is asserted nothing
is in flight, waits or is queued (R100, R116, R121, R145). That the condition is NORMAL without power
is the model's choice (log entry 25). -/
def Obligations.RestAndPowerKept : Prop :=
  ∀ s t : State, s.restsUnderReset → s.powerSound → step s = .next t →
    t.restsUnderReset ∧ t.powerSound

/-- The age counter, the duration count and the interval count stay within 65535 (R18, R19,
R149).
Every response part that the link shifts sums to 5Ah (R167). -/
def Obligations.CountersAndResponsesKept : Prop :=
  (∀ s t : State, s.countersFit → step s = .next t → t.countersFit) ∧
  (∀ s t : State, s.responseSound → step s = .next t → t.responseSound)

/-- While the bridge is without power or RST is asserted, a command that is no change of supply or
of a line has no effect at all (R100, R164, R175).
Under RST, and without power, the levels of GRP, PFAIL and LSEL are followed and no edge is acted
on (R3, R100, R124, R175). That the power condition is NORMAL while there is no power, whatever the
level of PFAIL, is the model's choice (log entry 25). -/
def Obligations.RestWhileNotRunning : Prop :=
  (∀ (c : Instr) (s : State), s.running = false → isLineEvent c = false → exec c s = .next s) ∧
  (∀ s : State, s.running = false →
     (s.lines.grp = false → exec .grpRise s = .next { s with lines.grp := true }) ∧
     (s.lines.grp = true → exec .grpFall s = .next { s with lines.grp := false }) ∧
     (s.lines.pfail = false →
       exec .pfailAssertion s = .next
         { s with lines.pfail := true, power := if s.lines.powered then .safe else .normal }) ∧
     (s.lines.pfail = true →
       exec .pfailDeassertion s = .next { s with lines.pfail := false, power := .normal }) ∧
     (s.lines.lsel = false →
       exec .lselAssertion s = .next
         { s with lines.lsel := true,
                  link.frame := if s.lines.powered then .ignored else .none }) ∧
     (∀ bits, s.lines.lsel = true → partUnfinished (bytesOfBits bits) = true →
       exec (.lselDeassertion bits) s = .next
         { s with lines.lsel := false, link.frame := .none }))

/-! ## Lines out -/

/-- FAIL is asserted exactly in RECOVERING, UNCONFIGURED and HALTED (R2), INT exactly while a
pending kind is enabled in the mask (R162), SAFE exactly in the condition SAFE (R116).
LDO is driven only while LSEL is asserted, bits most significant first (R164, R175), and not without
power, which is the model's choice (log entry 25): FFh up to the end
of the command part, 00h while a READ_JOURNAL waits, then the filler already shifted, the response part
and FFh (R164, R167).
The memory control lines are inactive with no transfer in flight (R145); word k of a transfer stands on
its address, a read enables the output and a write the lanes of the word (R38, R140; log entry 30). -/
def Obligations.OutputLevels : Prop :=
  (∀ s : State, s.lines.powered = true →
    (State.failLine s = true ↔
      s.group.state = .recovering ∨ s.group.state = .unconfigured ∨ s.group.state = .halted)) ∧
  (∀ s : State, State.intLine s = true ↔
    ∃ p ∈ s.events.pendingSet, s.events.mask.getLsbD (Event.priority p.event - 1) = true) ∧
  (∀ s : State, State.safeLine s = true ↔ s.power = .safe) ∧
  ((∀ (n : Nat) (s : State), s.lines.powered = false ∨ s.lines.lsel = false →
      State.ldo s n = none) ∧
   (∀ (n : Nat) (s : State), s.lines.powered = true → s.lines.lsel = true →
      State.ldo s n = some ((State.ldoByte s (n / 8)).getLsbD (7 - n % 8))) ∧
   (∀ (k : Nat) (s : State), s.link.frame ≠ .answered → State.ldoByte s k = 0xFF) ∧
   (∀ (k : Nat) (s : State), s.link.frame = .answered → s.link.response = [] →
      State.ldoByte s k = 0x00) ∧
   (∀ (k : Nat) (s : State), s.link.frame = .answered → s.link.response ≠ [] →
      (k < s.link.fillers → State.ldoByte s k = 0x00) ∧
      (k < s.link.response.length →
        State.ldoByte s (s.link.fillers + k) = s.link.response.getD k 0) ∧
      (s.link.fillers + s.link.response.length ≤ k → State.ldoByte s k = 0xFF))) ∧
  ((∀ (k : Nat) (s : State), s.port.inFlight = none →
      State.memoryLines s k =
        { address := 0, chipEnable := false, outputEnable := false, writeLow := false,
          writeHigh := false }) ∧
   (∀ (t : Transfer) (n k : Nat) (s : State), s.port.inFlight = some t → t.body = .read n → k < n →
      State.memoryLines s k =
        { address := t.addr + k, chipEnable := true, outputEnable := true, writeLow := false,
          writeHigh := false }) ∧
   (∀ (t : Transfer) (ws : List (LaneSet × Word)) (k : Nat) (s : State),
      s.port.inFlight = some t → t.body = .write ws → k < ws.length →
      let lanes := (ws.getD k (.none, 0)).1
      State.memoryLines s k =
        { address := t.addr + k, chipEnable := decide (lanes ≠ .none), outputEnable := false,
          writeLow := decide (lanes = .low ∨ lanes = .both),
          writeHigh := decide (lanes = .high ∨ lanes = .both) }))

/-! ## The operations that several commands share -/

/-- A command taken is answered with a status and data, and the last-command fields take its code
and status (R167, R169); INVALID carries its reason in both. The response part sums to 5Ah and follows
without filler (R167). The codes of commands, statuses and reasons are those of R179. -/
def Obligations.LinkAnswer : Prop :=
  (∀ (i : Instr) (st : LinkStatus) (data : List Byte) (s : State),
    ∃ check : Byte,
      State.answer i st data s =
        { s with
          link.frame := .answered
          link.response := (LinkStatus.code st :: data) ++ [check]
          link.fillers := 0
          link.code := commandCode i
          link.status := LinkStatus.code st
          link.reason := 0 } ∧
      byteSum ((LinkStatus.code st :: data) ++ [check]) = 0x5A) ∧
  (∀ (i : Instr) (r : InvalidReason) (s : State),
    ∃ check : Byte,
      State.answerInvalid i r s =
        { s with
          link.frame := .answered
          link.response := [0x07, InvalidReason.code r, check]
          link.fillers := 0
          link.code := commandCode i
          link.status := 0x07
          link.reason := InvalidReason.code r } ∧
      byteSum [0x07, InvalidReason.code r, check] = 0x5A) ∧
  (∀ st : LinkStatus, LinkStatus.code st =
    match st with
    | .ok => 0x01
    | .started => 0x02
    | .busy => 0x03
    | .noGroup => 0x04
    | .tooLate => 0x05
    | .already => 0x06
    | .invalid => 0x07
    | .badCheck => 0x08
    | .unknown => 0x09
    | .none => 0x0A) ∧
  (∀ r : InvalidReason, InvalidReason.code r =
    match r with
    | .top => 0x01
    | .journalSize => 0x02
    | .journalPlace => 0x03
    | .defaultAttr => 0x04
    | .mask => 0x05
    | .divisor => 0x06
    | .regionAttr => 0x07
    | .regionRange => 0x08
    | .scanFlag => 0x09
    | .regionIndex => 0x0A
    | .regionUnused => 0x0B
    | .range => 0x0C
    | .noJournal => 0x0D) ∧
  (commandCode .status = 0x01 ∧ commandCode .nextEvent = 0x02 ∧ commandCode .abortGroup = 0x03 ∧
    (∀ w, commandCode (.setMask w) = 0x04) ∧ (∀ o n, commandCode (.readLive o n) = 0x05) ∧
    (∀ o n, commandCode (.readStage o n) = 0x06) ∧
    (∀ o n ws, commandCode (.stage o n ws) = 0x07) ∧ commandCode .copyLiveToStage = 0x08 ∧
    commandCode .storeAnchor = 0x09 ∧ commandCode .format = 0x0A ∧
    (∀ o n, commandCode (.readJournal o n) = 0x0B) ∧ (∀ i, commandCode (.scanRegion i) = 0x0C))

/-- Raising an event (R159): a kind that does not stand forms an entry with no repeats; a kind that
stands keeps its detail and counts a repeat up to 255, LINK_ERROR counting in its two fields up to
FFFFh as well; the entries of other kinds stay. -/
def Obligations.RaiseEvent : Prop :=
  ∀ (e : Event) (s : State), s.eventsSound →
    (∃ set, State.raise e s = { s with events.pendingSet := set }) ∧
    (∀ q : PendingEvent, Event.priority q.event ≠ Event.priority e →
      (q ∈ (State.raise e s).events.pendingSet ↔ q ∈ s.events.pendingSet)) ∧
    ((∀ p ∈ s.events.pendingSet, Event.priority p.event ≠ Event.priority e) →
      { event := e, repeats := 0 } ∈ (State.raise e s).events.pendingSet) ∧
    (∀ p ∈ s.events.pendingSet, Event.priority p.event = Event.priority e →
      { event := (match p.event, e with
          | .linkError c b, .linkError c' b' =>
            Event.linkError (min 65535 (c + c')) (min 65535 (b + b'))
          | standing, _ => standing),
        repeats := min 255 (p.repeats + 1) } ∈ (State.raise e s).events.pendingSet)

/-- A request (R141, R142): with the port free, no request waiting and no rollback due it is granted at
once;
otherwise it waits as its requester's one request.
The grant (R142, R143): on a free port the first waiting requester of the fixed order is chosen,
the forward activity second when urgent and after the host read when not; the forward activity is
urgent in the five conditions of R143. From an abort until the rollback has made its first request,
nothing is granted (R67, R70). -/
def Obligations.RequestsAndGrants : Prop :=
  (∀ (t : Transfer) (s : State),
     (s.port.inFlight = none → s.port.requests = Requests.empty →
       (∀ g cause, s.journal.backward ≠ .rollbackDue g cause) →
       State.request t s = { s with port.inFlight := some t, port.discard := false }) ∧
     (s.port.inFlight ≠ none ∨ s.port.requests ≠ Requests.empty ∨
         (∃ g cause, s.journal.backward = .rollbackDue g cause) →
       State.request t s =
         { s with
           port.requests := Requests.put s.port.requests (Purpose.requester t.purpose) (some t) })) ∧
  ((∀ s : State, s.port.inFlight ≠ none ∨ s.port.requests = Requests.empty ∨
       (∃ g cause, s.journal.backward = .rollbackDue g cause) →
     State.grant s = s) ∧
   (∀ (s : State) (q : Requester) (t : Transfer), s.port.inFlight = none →
     (∀ g cause, s.journal.backward ≠ .rollbackDue g cause) →
     Requests.get s.port.requests q = some t →
     (∀ r, r ∈ ((if s.urgent then
           [Requester.backward, .forward, .host, .anchor, .link, .scanner]
         else [Requester.backward, .host, .forward, .anchor, .link, .scanner]).takeWhile (· != q)) →
       Requests.get s.port.requests r = none) →
     State.grant s =
       { s with
         port.inFlight := some t
         port.discard := false
         port.requests := Requests.put s.port.requests q none }) ∧
   (∀ s : State, s.urgent = true ↔
     s.queue.length = 8 ∨
     (∃ a, s.host.access = some a ∧ a.phase = .readQueued ∧
       ∃ e ∈ s.queue, e.block = Access.block a) ∨
     s.group.state = .committing ∨ (s.anchor.job ≠ none ∧ s.quiet = false) ∨
     s.power = .draining))

/-- What closes a moment (log entry 5): with no age timeout due, no periodic scan that can start and
no grant to make, nothing; otherwise the timeout is taken (R19), then the due scan starts (R152),
then the port is granted (R142). New memory work in SAFE leads back to DRAINING (R122).
Memory work is pending (R117) while a transfer is in flight or waits, the queue is not quiet, the group
state is one of the five whose end takes memory work (RECOVERING only while RST is deasserted), or a
served read has not completed. The queue is quiet (R62) with no entry, no forming access, an access
whose words are being discarded among them (log entry 14), and none waiting for a place. -/
def Obligations.MomentCloses : Prop :=
  (∀ s : State, State.settle s = State.grant (State.startDueScan (State.takeAgeTimeout s))) ∧
  (∀ s : State,
    (s.group.state ≠ .groupOpen ∨ anchorAgeLimit s.anchor.live = 0 ∨
      s.group.age < anchorAgeLimit s.anchor.live) →
    (s.scanner.due = false ∨ s.lines.pfail = true ∨ s.scanner.scan ≠ .none) →
    (s.port.inFlight ≠ none ∨ s.port.requests = Requests.empty ∨
      (∃ g cause, s.journal.backward = .rollbackDue g cause)) →
    State.settle s = s) ∧
  (∀ s : State, State.finish s =
    if s.power = .safe ∧ s.workPending = true then { s with power := .draining } else s) ∧
  (∀ s : State, s.workPending = true ↔
    s.port.inFlight ≠ none ∨ s.port.requests ≠ Requests.empty ∨ s.quiet = false ∨
    s.group.state = .opening ∨ s.group.state = .committing ∨ s.group.state = .rollingBack ∨
    s.group.state = .configuring ∨ (s.group.state = .recovering ∧ s.lines.rst = false) ∨
    ∃ a, s.host.access = some a ∧ (a.phase = .readQueued ∨ a.phase = .readRequested)) ∧
  (∀ s : State, s.quiet = true ↔
    s.queue = [] ∧ ∀ a, s.host.access = some a →
      a.phase ≠ .discarding ∧ ∀ p, a.phase ≠ .forming p ∧ a.phase ≠ .waiting p)

/-- Entry to IDLE (R6, R10): OPEN_PENDING is cleared; with GRP low the state is IDLE; with GRP high
the controller goes on to OPENING, which clears the saved-block set, both image counts and the
duration count and hands over the opening work. A held access is due for release (R137). From
RECOVERING or CONFIGURING the scanner starts anew (R149).
Entry to HALTED with JOURNAL_UNREADABLE (R69, R104, R109, R115, R156): the saved-block set is
emptied, both image counts are 0, the current header is discarded, the backward activity holds
nothing, the scanner is idle; memory stays. -/
def Obligations.IdleAndHaltedEntered : Prop :=
  (∀ s : State,
     State.enterIdle s =
       (let sc : Scanner :=
         if s.group.state = .recovering ∨ s.group.state = .configuring then
           { s.scanner with count := 0, last := none }
         else s.scanner
       let held := s.host.access.map (fun a => { a with phase := AccessPhase.markRelease a.phase })
       if s.lines.grp then
         { s with
           group.state := .opening
           group.openPending := false
           group.duration := 0
           journal.saved := []
           journal.written := 0
           journal.reserved := 0
           journal.handed := some .opening
           scanner := sc
           host.access := held }
       else
         { s with
           group.state := .idle
           group.openPending := false
           scanner := sc
           host.access := held })) ∧
  (∀ (cause : UnreadableCause) (offset : Nat) (s : State),
     State.haltJournal cause offset s = State.markRelease
       { State.idleScanner s with
         group.state := .halted
         events.pendingSet := raiseIn (.journalUnreadable cause offset) s.events.pendingSet
         journal.saved := []
         journal.written := 0
         journal.reserved := 0
         journal.header := none
         journal.backward := .idle })

/-- An abort or age timeout taken in OPEN (R41, R61, R66): the group's entries leave the queue
wherever they stand, but the head stays when its data write is in flight; the reservations are
dropped, both latches are cleared, the rollback is recorded with its cause.
What an abort or age timeout makes of the access on the host bus (R54, R55, R61): a group write
waiting for a place and a read waiting on a JOURNAL or STRICT block go back to the port as held
accesses due for release; a forming group write goes on with its words discarded; every other access
stays as it is, but a held one is due for release. -/
def Obligations.AbortTaken : Prop :=
  (∀ (cause : Cause) (s : State),
     (State.takeAbort cause s).group =
       { s.group with state := .rollingBack, closePending := false, openPending := false } ∧
     (State.takeAbort cause s).journal.backward = .rollbackDue s.groupNumber cause ∧
     (State.takeAbort cause s).journal.reserved = 0 ∧
     (State.takeAbort cause s).journal.written = s.journal.written ∧
     (State.takeAbort cause s).journal.saved = s.journal.saved ∧
     (State.takeAbort cause s).journal.header = s.journal.header ∧
     (State.takeAbort cause s).journal.handed = s.journal.handed ∧
     (s.inFlightIs .dataWrite = false →
       (State.takeAbort cause s).queue = s.queue.filter (fun e => !Tag.isGroup e.tag)) ∧
     (∀ e rest, s.inFlightIs .dataWrite = true → s.queue = e :: rest →
       (State.takeAbort cause s).queue = e :: rest.filter (fun x => !Tag.isGroup x.tag)) ∧
     (∀ e r, s.journal.forward = some (.retire e r) → Tag.isGroup e.tag = true →
       (s.inFlightIs .dataWrite = true →
         (State.takeAbort cause s).journal.forward = s.journal.forward ∧
         (State.takeAbort cause s).port = s.port) ∧
       (s.inFlightIs .dataWrite = false → s.inFlightFor .forward = true →
         (State.takeAbort cause s).journal.forward = some (.retire e true) ∧
         (State.takeAbort cause s).port = s.port) ∧
       (s.inFlightFor .forward = false →
         (State.takeAbort cause s).journal.forward = none ∧
         (State.takeAbort cause s).port =
           { s.port with requests := { s.port.requests with forward := none } })) ∧
     (∀ e r, s.journal.forward = some (.retire e r) → Tag.isGroup e.tag = false →
       (State.takeAbort cause s).journal.forward = s.journal.forward ∧
       (State.takeAbort cause s).port = s.port) ∧
     ((∀ e r, s.journal.forward ≠ some (.retire e r)) →
       (State.takeAbort cause s).journal.forward = s.journal.forward ∧
       (State.takeAbort cause s).port = s.port) ∧
     ((State.takeAbort cause s).lines = s.lines ∧ (State.takeAbort cause s).anchor = s.anchor ∧
       (State.takeAbort cause s).scanner = s.scanner ∧ (State.takeAbort cause s).power = s.power ∧
       (State.takeAbort cause s).events = s.events ∧ (State.takeAbort cause s).link = s.link ∧
       (State.takeAbort cause s).mem = s.mem ∧ (State.takeAbort cause s).pending = s.pending)) ∧
  (∀ (cause : Cause) (s : State),
     (s.host.access = none → (State.takeAbort cause s).host = s.host) ∧
     ∀ a, s.host.access = some a → ∃ p : AccessPhase,
       (State.takeAbort cause s).host =
         { access := some { a with phase := p }, answer := s.host.answer } ∧
       (∀ post, a.phase = .waiting post →
         p = if Tag.isGroup post.tag then .held true else a.phase) ∧
       (∀ post, a.phase = .forming post →
         p = if Tag.isGroup post.tag then .discarding else a.phase) ∧
       (a.phase = .readQueued →
         (∀ i, s.lookup (Access.block a) = .region .journal i ∨
           s.lookup (Access.block a) = .region .strict i → p = .held true) ∧
         ((∀ i, s.lookup (Access.block a) ≠ .region .journal i ∧
           s.lookup (Access.block a) ≠ .region .strict i) → p = .readQueued)) ∧
       (∀ d, a.phase = .held d → p = .held true) ∧
       (a.phase.postPending = false → a.phase ≠ .readQueued → (∀ d, a.phase ≠ .held d) →
         p = a.phase))

/-- A scan starts at the first word of its region's first granule with value 0, covers the whole
granule range, and asks for its first eight words, unless a read of an abandoned scan is still in
flight (R150, R141; log entry 20).
A scan in progress is abandoned without a report (R141, R156): its waiting read is withdrawn and
the words of its read in flight are marked to be discarded. Its region index, next word, words
remaining and running value stay as they are, which is the model's choice (log entry 22). An idle scanner also has no due scan and
a count of 0 (R149). -/
def Obligations.ScanStartsAndAbandonments : Prop :=
  (∀ (kind : ScanKind) (i : Nat) (s : State), kind ≠ .none →
     let first := (wordAtIndex s.anchor.live (10 + 4 * i)).toNat
     let last := (wordAtIndex s.anchor.live (11 + 4 * i)).toNat
     let s1 : State :=
       { s with
         scanner.scan := kind
         scanner.region := i
         scanner.next := first * 512
         scanner.remaining := (last + 1 - first) * 512
         scanner.value := 0 }
     State.startScan kind i s =
       if s.inFlightIs .scanRead then s1
       else State.request { purpose := .scanRead, addr := first * 512, body := .read 8 } s1) ∧
  ((∀ s : State, s.scanner.scan ≠ .none →
     State.abandonScan s =
       { s with
         scanner.scan := .none
         port.discard := s.port.discard || s.inFlightIs .scanRead
         port.requests := { s.port.requests with scanner := none } }) ∧
   (∀ s : State, s.scanner.scan = .none → State.abandonScan s = s) ∧
   (∀ s : State, State.idleScanner s =
     { State.abandonScan s with scanner.count := 0, scanner.due := false }))

/-- A header write goes to the slot that does not hold the current header, with the next serial and
a check word that makes the four words sum to 3E91h (R26, R22, R176, R178).
The records as stored (R27 to R30, R72, R178): kind in bits 15 to 12, group in bits 11 to 0, the
fields of each kind, and a check word that makes the record sum to 3E91h (R176). -/
def Obligations.StructuresWritten : Prop :=
  (∀ (p : Purpose) (g hw : Nat) (s : State) (h : Header), s.journal.header = some h →
     ∃ check : Word,
       (h.serial + 1) + BitVec.ofNat 16 g + BitVec.ofNat 16 hw + check = 0x3E91#16 ∧
       State.requestHeader p g hw s =
         State.request
           { purpose := p
             addr := (wordAtIndex s.anchor.live 2).toNat * 512 + (if h.slot = .a then 4 else 0)
             body := .write [(.both, h.serial + 1), (.both, BitVec.ofNat 16 g),
                             (.both, BitVec.ofNat 16 hw), (.both, check)] }
           { s with
             journal.slotWriting := some
               { serial := h.serial + 1, group := g, highWater := hw,
                 slot := if h.slot = .a then .b else .a } }) ∧
  (∀ g : Nat, g < 4096 →
     (∀ a c : Nat, ∃ check : Word,
       openRecordWords g a c =
         [BitVec.ofNat 16 (0x1000 + g), BitVec.ofNat 16 a, BitVec.ofNat 16 c, check] ∧
       wordSum (openRecordWords g a c) = 0x3E91#16) ∧
     (∀ (b : Nat) (w0 w1 w2 w3 : Word), b < 2 ^ 21 → ∃ check : Word,
       imageRecordWords g b [w0, w1, w2, w3] =
         [BitVec.ofNat 16 (0x2000 + g), BitVec.ofNat 16 (b / 65536), BitVec.ofNat 16 (b % 65536),
          w0, w1, w2, w3, check] ∧
       wordSum (imageRecordWords g b [w0, w1, w2, w3]) = 0x3E91#16 ∧
       imageRecordBlock (imageRecordWords g b [w0, w1, w2, w3]) = b ∧
       imageRecordOld (imageRecordWords g b [w0, w1, w2, w3]) = [w0, w1, w2, w3]) ∧
     (∀ n d : Nat, ∃ check : Word,
       commitRecordWords g n d =
         [BitVec.ofNat 16 (0x3000 + g), BitVec.ofNat 16 n, BitVec.ofNat 16 d, check] ∧
       wordSum (commitRecordWords g n d) = 0x3E91#16) ∧
     (∀ (n : Nat) (cause : Cause), ∃ check : Word,
       undoneRecordWords g n cause =
         [BitVec.ofNat 16 (0x4000 + g), BitVec.ofNat 16 n,
          (match cause with
           | .abortCmd => 1
           | .ageLimit => 2
           | .recovery => 3), check] ∧
       wordSum (undoneRecordWords g n cause) = 0x3E91#16))

/-! ## The tests the bridge makes -/

/-- The region lookup: with an anchor live, the first matching step of R84 decides; with none, the
built-in table gives blocks 0 to 10 the anchor area and every other block PASS (R85). The attribute
codes are those of R177. -/
def Obligations.RegionLookup : Prop :=
  (∀ (s : State) (block : Nat),
    (s.anchor.isLive = true → s.lookup block = lookupLive s.anchor.live block) ∧
    (s.anchor.isLive = false → block ≤ 10 → s.lookup block = .anchorArea) ∧
    (s.anchor.isLive = false → 10 < block → s.lookup block = .region .pass none)) ∧
  (∀ (a : List Word) (i : Nat),
    ((wordAtIndex a (12 + 4 * i)).toNat % 16 = 0 → regionAttr a i = .none) ∧
    ((wordAtIndex a (12 + 4 * i)).toNat % 16 = 1 → regionAttr a i = .pass) ∧
    ((wordAtIndex a (12 + 4 * i)).toNat % 16 = 2 → regionAttr a i = .journal) ∧
    ((wordAtIndex a (12 + 4 * i)).toNat % 16 = 3 → regionAttr a i = .strict) ∧
    ((wordAtIndex a (12 + 4 * i)).toNat % 16 = 4 → regionAttr a i = .frozen)) ∧
  ∀ (a : List Word) (block : Nat),
    (anchorTop a < block / 128 → lookupLive a block = .unmapped) ∧
    (block / 128 ≤ anchorTop a → block ≤ 10 → lookupLive a block = .anchorArea) ∧
    (block / 128 ≤ anchorTop a → 10 < block → anchorBase a ≤ block / 128 →
      block / 128 < anchorBase a + anchorLength a → lookupLive a block = .journalArea) ∧
    (block / 128 ≤ anchorTop a → 10 < block →
      ¬ (anchorBase a ≤ block / 128 ∧ block / 128 < anchorBase a + anchorLength a) →
      (∀ i, i < 8 → regionAttr a i ≠ .none → regionFirst a i ≤ block / 128 →
        block / 128 ≤ regionLast a i →
        (∀ j, j < i → regionAttr a j = .none ∨ block / 128 < regionFirst a j ∨
          regionLast a j < block / 128) →
        lookupLive a block = .region (regionAttr a i) (some i)) ∧
      ((∀ j, j < 8 → regionAttr a j = .none ∨ block / 128 < regionFirst a j ∨
          regionLast a j < block / 128) →
        lookupLive a block =
          if anchorDefault a = 1 then .region .pass none else .unmapped))

/-- The order of classification before the table (R130, R129, R132): power, burst, whole-bus hold,
then the lookup results that decide without an attribute.
The classification table for a region's block (R131, with R112 for RECOVERING): the outcome by
attribute, direction and group state, for accesses that steps 1 to 4 of R130 leave to it. -/
def Obligations.Classification : Prop :=
  (∀ (a : Access) (s : State),
     (s.lines.pfail = true → State.verdict a s = .refuse .powerFail) ∧
     (s.lines.pfail = false →
       (4 < a.addr.toNat / 2 % 4 + a.lanes.length → State.verdict a s = .refuse .badBurst) ∧
       (a.addr.toNat / 2 % 4 + a.lanes.length ≤ 4 →
         (s.group.state = .configuring ∨ (s.group.state = .recovering ∧ s.anchor.isLive = false) →
           State.verdict a s = .hold) ∧
         (s.group.state ≠ .configuring → (s.group.state = .recovering → s.anchor.isLive = true) →
           (s.lookup (Access.block a) = .unmapped → State.verdict a s = .refuse .unmapped) ∧
           (s.lookup (Access.block a) = .journalArea →
             State.verdict a s = .refuse .protectedArea) ∧
           (s.lookup (Access.block a) = .anchorArea →
             State.verdict a s = if a.write then .refuse .protectedArea else .serve))))) ∧
  (∀ (a : Access) (s : State) (attr : Attr) (i : Option Nat), s.lines.pfail = false →
     a.addr.toNat / 2 % 4 + a.lanes.length ≤ 4 → s.group.state ≠ .configuring →
     (s.group.state = .recovering → s.anchor.isLive = true) →
     s.lookup (Access.block a) = .region attr i →
     (attr = .pass → State.verdict a s = if a.write then .postPlain else .serve) ∧
     (attr = .frozen → State.verdict a s = if a.write then .refuse .frozen else .serve) ∧
     (attr = .journal ∨ attr = .strict → State.verdict a s =
       match s.group.state, a.write with
       | .idle, false => .serve
       | .idle, true => if attr = .strict then .refuse .outsideGroup else .postPlain
       | .opening, w => if w then .hold else .serve
       | .groupOpen, w => if w then .postGroup else .serve
       | .committing, w => if w then .hold else .serve
       | .rollingBack, _ => .hold
       | .aborted, w => if w then .refuse .groupAborted else .serve
       | .configuring, _ => .hold
       | .recovering, _ => .hold
       | .halted, _ => .refuse .unavailable
       | .unconfigured, w => if w then .postPlain else .serve))

/-- The anchor test (R81) and the reason of its first failing test (R88).
The validation of STORE_ANCHOR (the table of R90): the first failing test of tests 3 to 11 names
the reason; in IDLE and HALTED a new journal base inside the old area above its base fails test 5. -/
def Obligations.AnchorTests : Prop :=
  (∀ w : List Word,
     (anchorFault w = none ↔
       wordAtIndex w 0 = 0x6A4B#16 ∧ wordSum w = 0x3E91#16 ∧
       (1 ≤ anchorTop w ∧ anchorTop w ≤ 16383) ∧ (1 ≤ anchorLength w ∧ anchorLength w ≤ 64) ∧
       (1 ≤ anchorBase w ∧ anchorBase w + anchorLength w - 1 ≤ anchorTop w) ∧
       (wordAtIndex w 4 = 0 ∨ wordAtIndex w 4 = 1) ∧ (wordAtIndex w 5).toNat < 2048 ∧
       wordAtIndex w 6 ≠ 0 ∧
       (∀ i, i < 8 → (wordAtIndex w (12 + 4 * i)).toNat % 32768 ≤ 4) ∧
       (∀ i, i < 8 → regionAttr w i ≠ .none →
         regionFirst w i ≤ regionLast w i ∧ regionLast w i ≤ anchorTop w) ∧
       (∀ i, i < 8 → regionAttr w i ≠ .frozen →
         (wordAtIndex w (12 + 4 * i)).getLsbD 15 = false)) ∧
     (anchorFault w = some .mark ↔ wordAtIndex w 0 ≠ 0x6A4B#16) ∧
     (anchorFault w = some .check ↔ wordAtIndex w 0 = 0x6A4B#16 ∧ wordSum w ≠ 0x3E91#16)) ∧
  (∀ (w live : List Word) (old : Bool),
     let place : Prop :=
       (1 ≤ anchorBase w ∧ anchorBase w + anchorLength w - 1 ≤ anchorTop w) ∧
       ¬ (old = true ∧ anchorBase live < anchorBase w ∧
           anchorBase w ≤ anchorBase live + anchorLength live - 1)
     let t3 : Prop := 1 ≤ anchorTop w ∧ anchorTop w ≤ 16383
     let t4 : Prop := 1 ≤ anchorLength w ∧ anchorLength w ≤ 64
     let t6 : Prop := wordAtIndex w 4 = 0 ∨ wordAtIndex w 4 = 1
     let t7 : Prop := (wordAtIndex w 5).toNat < 2048
     let t8 : Prop := wordAtIndex w 6 ≠ 0
     let t9 : Prop := ∀ i, i < 8 → (wordAtIndex w (12 + 4 * i)).toNat % 32768 ≤ 4
     let t10 : Prop := ∀ i, i < 8 → regionAttr w i ≠ .none →
       regionFirst w i ≤ regionLast w i ∧ regionLast w i ≤ anchorTop w
     let t11 : Prop := ∀ i, i < 8 → regionAttr w i ≠ .frozen →
       (wordAtIndex w (12 + 4 * i)).getLsbD 15 = false
     (¬ t3 → storeFault w live old = some .top) ∧
     (t3 ∧ ¬ t4 → storeFault w live old = some .journalSize) ∧
     (t3 ∧ t4 ∧ ¬ place → storeFault w live old = some .journalPlace) ∧
     (t3 ∧ t4 ∧ place ∧ ¬ t6 → storeFault w live old = some .defaultAttr) ∧
     (t3 ∧ t4 ∧ place ∧ t6 ∧ ¬ t7 → storeFault w live old = some .mask) ∧
     (t3 ∧ t4 ∧ place ∧ t6 ∧ t7 ∧ ¬ t8 → storeFault w live old = some .divisor) ∧
     (t3 ∧ t4 ∧ place ∧ t6 ∧ t7 ∧ t8 ∧ ¬ t9 → storeFault w live old = some .regionAttr) ∧
     (t3 ∧ t4 ∧ place ∧ t6 ∧ t7 ∧ t8 ∧ t9 ∧ ¬ t10 →
       storeFault w live old = some .regionRange) ∧
     (t3 ∧ t4 ∧ place ∧ t6 ∧ t7 ∧ t8 ∧ t9 ∧ t10 ∧ ¬ t11 →
       storeFault w live old = some .scanFlag) ∧
     (t3 ∧ t4 ∧ place ∧ t6 ∧ t7 ∧ t8 ∧ t9 ∧ t10 ∧ t11 → storeFault w live old = none))

/-- The newest valid header slot (the table of R24): a slot is valid by its check, a group number up
to 4095 and a high-water from 8 to L.
The record at a walk position is taken into the run when every test of R106 holds; `n` is the
number of IMAGE records already taken.
The tests of R69 on an IMAGE record that a rollback has read.
The first image of a run that names a forbidden block (R109): above the memory top, in blocks 0
to 10 or in the journal area. -/
def Obligations.JournalReadTests : Prop :=
  ((∀ (slot : Slot) (len : Nat) (w0 w1 w2 w3 : Word),
     slotHeader slot len [w0, w1, w2, w3] =
       if w0 + w1 + w2 + w3 = 0x3E91#16 ∧ w1.toNat ≤ 4095 ∧ 8 ≤ w2.toNat ∧ w2.toNat ≤ len then
         some { serial := w0, group := w1.toNat, highWater := w2.toNat, slot := slot }
       else none) ∧
   (∀ (len : Nat) (wa wb : List Word), wa.length = 4 →
     newestHeader len (wa ++ wb) =
       match slotHeader .a len wa, slotHeader .b len wb with
       | some a, none => some a
       | none, some b => some b
       | none, none => none
       | some a, some b =>
         if 1 ≤ (b.serial - a.serial).toNat ∧ (b.serial - a.serial).toNat ≤ 32767 then some b
         else some a)) ∧
  (∀ (len g p n : Nat) (ws : List Word) (k : RecordKind),
     walkRecord len g p n ws = some k ↔
       ((wordAtIndex ws 0).toNat / 4096 = RecordKind.code k ∧
       (wordAtIndex ws 0).toNat % 4096 = g ∧
       p + (if k = .image then 8 else 4) ≤ len ∧
       (if k = .image then 8 else 4) ≤ ws.length ∧
       wordSum (ws.take (if k = .image then 8 else 4)) = 0x3E91#16 ∧
       (p = 8 ↔ k = .opened) ∧
       (k = .commit ∨ k = .undone → (wordAtIndex ws 1).toNat = n))) ∧
  (∀ (a : List Word) (g : Nat) (ws : List Word), ws.length = 8 →
     (imageRecordOk a g ws = true ↔
       (wordAtIndex ws 0).toNat / 4096 = 2 ∧ (wordAtIndex ws 0).toNat % 4096 = g ∧
       wordSum ws = 0x3E91#16 ∧
       imageRecordBlock ws / 128 ≤ anchorTop a ∧ 10 < imageRecordBlock ws ∧
       ¬ (anchorBase a ≤ imageRecordBlock ws / 128 ∧
           imageRecordBlock ws / 128 < anchorBase a + anchorLength a))) ∧
  (∀ (a : List Word) (blocks : List Nat),
     let bad (b : Nat) : Prop :=
       anchorTop a < b / 128 ∨ b ≤ 10 ∨
         (anchorBase a ≤ b / 128 ∧ b / 128 < anchorBase a + anchorLength a)
     (firstForbidden a blocks = none ↔ ∀ b ∈ blocks, ¬ bad b) ∧
     (∀ k, firstForbidden a blocks = some k ↔
       k < blocks.length ∧ bad (blocks.getD k 0) ∧ ∀ j, j < k → ¬ bad (blocks.getD j 0)))

/-! ## Supply, reset and power-fail -/

/-- POWER_ON and RST_RELEASE start the bridge (R100, R102, R124, R145, R147): every block at its
reset values, the straps read, the anchor load as the first transfer, and the power condition
DRAINING or NORMAL by PFAIL; memory stays. With RST asserted, POWER_ON leaves the bridge at rest
(log entry 21), and without power a release is only followed. -/
def Obligations.StartUp : Prop :=
  (∀ (straps : BitVec 2) (s : State), s.lines.powered = false → s.lines.rst = false →
    exec (.powerOn straps) s = .next
      { State.reset with
        lines := { s.lines with powered := true, waits := straps }
        power := if s.lines.pfail then .draining else .normal
        link := { State.reset.link with frame := if s.lines.lsel then .ignored else .none }
        mem := s.mem, freeCount := s.freeCount, pending := s.pending }) ∧
  (∀ (straps : BitVec 2) (s : State), s.lines.powered = true → s.lines.rst = true →
    exec (.rstRelease straps) s = .next
      { State.reset with
        lines := { s.lines with rst := false, waits := straps }
        power := if s.lines.pfail then .draining else .normal
        link := { State.reset.link with frame := if s.lines.lsel then .ignored else .none }
        mem := s.mem, freeCount := s.freeCount, pending := s.pending }) ∧
  (∀ (straps : BitVec 2) (s : State), s.lines.powered = false → s.lines.rst = true →
    exec (.powerOn straps) s = .next
      { State.reset with
        lines := { s.lines with powered := true, waits := straps }
        port := { State.reset.port with inFlight := none }
        power := if s.lines.pfail then .safe else .normal
        link := { State.reset.link with frame := if s.lines.lsel then .ignored else .none }
        mem := s.mem, freeCount := s.freeCount, pending := s.pending } ∧
    exec (.rstRelease straps) s = .next { s with lines.rst := false })

/-- POWER_LOSS (R64, R126, R146) and RST_ASSERTION (R21, R64, R99, R145, R163, R175): everything in
the bridge is lost or set to its reset value; at a loss of power the transfer in flight is cut after
the words given, at RST assertion it completes whole. Nothing else in memory changes. What the lines and
the power condition show without power (log entry 25), and that the count of free values goes on (log
entry 24), are the model's choices. -/
def Obligations.BridgeCleared : Prop :=
  (∀ (n : Nat) (s s0 : State), s.lines.powered = true →
    s0 = (if s.running then State.settle s else s) →
    exec (.powerLoss n) s = .next
      { State.reset with
        lines := { s0.lines with powered := false }
        port := { State.reset.port with inFlight := none }
        mem := (match s0.port.inFlight with
          | some t => Transfer.memoryCut t n (Config.freeWord s0.freeCount) s0.mem
          | none => s0.mem)
        freeCount := s0.freeCount + 1, pending := s0.pending }) ∧
  (∀ s s0 : State, s.closesTo s0 →
    exec .rstAssertion s = .next
      { State.reset with
        lines := { s0.lines with rst := true }
        port := { State.reset.port with inFlight := none }
        power := if s0.lines.pfail then .safe else .normal
        link := { State.reset.link with frame := if s0.lines.lsel then .ignored else .none }
        mem := (match s0.port.inFlight with
          | some t => Transfer.memoryAfter t s0.mem
          | none => s0.mem)
        freeCount := s0.freeCount, pending := s0.pending }) ∧
  (∀ s : State, s.lines.powered = false → s.lines.rst = false →
    exec .rstAssertion s = .next { s with lines.rst := true })

/-- PFAIL_ASSERTION in a running bridge (R116, R118, R119, R139, R156, R54): DRAINING if memory work
is pending, SAFE if not; a held access, and a write waiting for a place, is refused POWER_FAIL, the
latter with its reservation withdrawn; a scan is abandoned and a periodic one becomes due; a
READ_JOURNAL not yet granted is answered BUSY, after the filler already shifted (log entry 28); the
last-command status becomes BUSY only while the fields still stand for it (log entry 15).
The abandoned scan's waiting read is withdrawn and the words of its read in flight are discarded; its
other fields stay, which is the model's choice (log entry 22). Group, queue, anchor, mask, memory and the activities
of the journal unit go on.
PFAIL_DEASSERTION (R123): the condition becomes NORMAL and nothing else changes. SAFE_ENTRY
(R121): in DRAINING under PFAIL, once no memory work is pending, the condition becomes SAFE and
nothing else changes. -/
def Obligations.PfailTaken : Prop :=
  (∀ s s0 : State, s.closesTo s0 → s0.lines.pfail = false →
     ∃ t : State, exec .pfailAssertion s = .next t ∧
       t.lines = { s0.lines with pfail := true } ∧
       (t.power = if t.workPending then .draining else .safe) ∧
       t.group = s0.group ∧ t.queue = s0.queue ∧ t.anchor = s0.anchor ∧ t.mem = s0.mem ∧
       t.events.mask = s0.events.mask ∧ t.pending = s0.pending ∧
       t.port.inFlight = s0.port.inFlight ∧
       t.port.requests.backward = s0.port.requests.backward ∧
       t.port.requests.forward = s0.port.requests.forward ∧
       t.port.requests.host = s0.port.requests.host ∧
       t.port.requests.anchor = s0.port.requests.anchor ∧ t.port.requests.link = none ∧
       t.port.requests.scanner =
         (if s0.scanner.scan = .none then s0.port.requests.scanner else none) ∧
       t.port.discard =
         (s0.port.discard || (s0.scanner.scan != .none && s0.inFlightIs .scanRead)) ∧
       t.scanner =
         { s0.scanner with
           scan := .none
           due := s0.scanner.due || s0.scanner.scan == .periodic } ∧
       (∀ a d, s0.host.access = some a → a.phase = .held d →
         t.host = { s0.host with access := some { a with phase := .refused .powerFail } } ∧
         t.journal = s0.journal ∧
         t.events.pendingSet =
           raiseIn (.accessRefused a.addr a.write .powerFail) s0.events.pendingSet) ∧
       (∀ a p, s0.host.access = some a → a.phase = .waiting p →
         t.host = { s0.host with access := some { a with phase := .refused .powerFail } } ∧
         t.journal =
           { s0.journal with
             reserved := if Tag.owesImage p.tag then s0.journal.reserved - 1
                         else s0.journal.reserved
             saved := if p.claimed then
                 s0.journal.saved.filter (fun b => b.block != Access.block a)
               else s0.journal.saved } ∧
         t.events.pendingSet =
           raiseIn (.accessRefused a.addr a.write .powerFail) s0.events.pendingSet) ∧
       (s0.accessIs AccessPhase.isWaiting = false →
         (∀ a d, s0.host.access = some a → a.phase ≠ .held d) →
         t.host = s0.host ∧ t.journal = s0.journal ∧ t.events = s0.events) ∧
       (s0.port.requests.link = none → t.link = s0.link ∧ t.freeCount = s0.freeCount) ∧
       (s0.port.requests.link ≠ none → t.link.read = .none ∧
         (s0.link.read = .outstanding true →
           t.link.frame = .answered ∧ t.link.response = [0x03, 0x57] ∧
           t.link.fillers = Config.freeFillers s0.freeCount ∧ t.freeCount = s0.freeCount + 1) ∧
         (s0.link.read ≠ .outstanding true →
           t.link.frame = s0.link.frame ∧ t.link.response = s0.link.response ∧
           t.link.fillers = s0.link.fillers ∧ t.freeCount = s0.freeCount) ∧
         t.link.code = s0.link.code ∧ t.link.reason = s0.link.reason ∧
         (¬ (s0.link.code = 0x0B ∧ s0.link.status = 0x00) → t.link.status = s0.link.status) ∧
         (s0.link.code = 0x0B → s0.link.status = 0x00 → t.link.status = 0x03))) ∧
  ((∀ s s0 : State, s.closesTo s0 → s0.lines.pfail = true →
     exec .pfailDeassertion s = .next { s0 with lines.pfail := false, power := .normal }) ∧
   (∀ s : State, s.running = true → s.lines.pfail = true → s.power = .draining →
     s.workPending = false → exec .safeEntry s = .next { s with power := .safe }) ∧
   (∀ s : State, s.running = true → s.power = .draining → s.workPending = true →
     exec .safeEntry s = .next s))

/-! ## The group controller -/

/-- GRP_RISE in each group state (R4, R10).
GRP_FALL in each group state (R5, and R6 for the entry to IDLE from ABORTED). -/
def Obligations.GrpEdges : Prop :=
  (∀ s s0 : State, s.closesTo s0 → s0.lines.grp = false →
     exec .grpRise s = .next (State.finish
       (match s0.group.state with
         | .idle => State.markRelease
             { s0 with
               lines.grp := true
               group.state := .opening
               group.duration := 0
               journal.saved := []
               journal.written := 0
               journal.reserved := 0
               journal.handed := some .opening }
         | .opening => { s0 with lines.grp := true, group.openPending := true }
         | .committing => { s0 with lines.grp := true, group.openPending := true }
         | _ => { s0 with lines.grp := true }))) ∧
  (∀ s s0 : State, s.closesTo s0 → s0.lines.grp = true →
     exec .grpFall s = .next (State.finish
       (match s0.group.state with
         | .opening =>
             { s0 with lines.grp := false, group.closePending := true, group.openPending := false }
         | .groupOpen => State.markRelease
             { s0 with
               lines.grp := false
               group.state := .committing
               journal.handed := some .commit }
         | .committing => { s0 with lines.grp := false, group.openPending := false }
         | .aborted => State.markRelease
             { s0 with
               lines.grp := false
               group.state := .idle
               group.openPending := false }
         | _ => { s0 with lines.grp := false })))

/-- TICK (R17, R18, R19, R20, R151): the next period takes the live divisor; in OPEN the duration
counts, and the age too unless PFAIL is asserted; the interval count counts while the scanner works,
no periodic scan runs or is due and the interval (not 0) is not reached. A stopped time base has no
ticks. -/
def Obligations.TickEffect : Prop :=
  ∀ s s0 : State, s.closesTo s0 →
    exec .tick s = .next (State.finish
      (if s0.group.timeRunning then
        { s0 with
          group.clkCount := 0
          group.divisor := wordAtIndex s0.anchor.live 6
          group.age :=
            if s0.group.state = .groupOpen ∧ s0.lines.pfail = false then
              min 65535 (s0.group.age + 1)
            else s0.group.age
          group.duration :=
            if s0.group.state = .groupOpen then min 65535 (s0.group.duration + 1)
            else s0.group.duration
          scanner.count :=
            if (s0.group.state = .idle ∨ s0.group.state = .opening ∨
                s0.group.state = .groupOpen ∨ s0.group.state = .committing ∨
                s0.group.state = .rollingBack ∨ s0.group.state = .aborted) ∧
              s0.scanner.due = false ∧
              s0.scanner.count < (wordAtIndex s0.anchor.live 8).toNat ∧
              s0.scanner.scan ≠ .periodic then s0.scanner.count + 1
            else s0.scanner.count }
      else s0))

/-- ABORT_GROUP taken, in each group state (R14).
AGE_TIMEOUT (R19): taken in OPEN when the age counter has reached a limit that is not 0, with the
effect of an abort of cause AGE_LIMIT; before that, and in every other state, it does not occur. -/
def Obligations.AbortGroupAndAgeTimeout : Prop :=
  (∀ s s0 : State, s.closesTo s0 → s0.link.frame = .awaiting →
     exec .abortGroup s = .next (State.finish
       (match s0.group.state with
         | .groupOpen => State.answer .abortGroup .ok [] (State.takeAbort .abortCmd s0)
         | .opening =>
             if s0.group.abortPending then State.answer .abortGroup .already [] s0
             else State.answer .abortGroup .ok [] { s0 with group.abortPending := true }
         | .committing => State.answer .abortGroup .tooLate [] s0
         | .idle => State.answer .abortGroup .noGroup [] s0
         | .rollingBack => State.answer .abortGroup .already [] s0
         | .aborted => State.answer .abortGroup .already [] s0
         | _ => State.answer .abortGroup .busy [] s0))) ∧
  ((∀ s : State, s.running = true → s.group.state = .groupOpen →
     (wordAtIndex s.anchor.live 7).toNat ≠ 0 →
     (wordAtIndex s.anchor.live 7).toNat ≤ s.group.age →
     exec .ageTimeout s = .next (State.finish (State.takeAbort .ageLimit s))) ∧
   (∀ s : State, s.running = true →
     s.group.state ≠ .groupOpen ∨ (wordAtIndex s.anchor.live 7).toNat = 0 ∨
       s.group.age < (wordAtIndex s.anchor.live 7).toNat →
     exec .ageTimeout s = .next (State.finish s)))

/-! ## The management link -/

/-- Frames (R164, R168): LSEL_ASSERTION begins a frame; LSEL_DEASSERTION ends it, drops what remains
of a response and leaves an outstanding journal read unheard; a command part cut after its command
byte raises LINK_ERROR, one without a whole byte does not. Outside an awaiting frame a link command
has no effect (R164). Bits travel most significant first, a command is taken at the last bit of a byte,
and the bits of an incomplete byte are discarded (R164).
UNKNOWN_COMMAND is answered UNKNOWN, BAD_CHECK_FRAME is answered BAD_CHECK and raises LINK_ERROR;
neither has another effect, and the last-command fields stay (R165, R166, R169, R180). -/
def Obligations.LinkFrames : Prop :=
  ((∀ s s0 : State, s.closesTo s0 → s0.lines.lsel = false →
     exec .lselAssertion s =
       .next (State.finish { s0 with lines.lsel := true, link.frame := .awaiting })) ∧
   (∀ (bytes : List Byte) (cut : List Bool), cut.length < 8 →
     let bits := bytes.flatMap (fun b => (List.range 8).map (fun k => b.getLsbD (7 - k))) ++ cut
     bytesOfBits bits = bytes ∧ decodeBits bits = if cut = [] then decodePart bytes else none) ∧
   (∀ (bits : List Bool) (s s0 : State), s.closesTo s0 → s0.lines.lsel = true →
     partUnfinished (bytesOfBits bits) = true →
     exec (.lselDeassertion bits) s = .next (State.finish
       { s0 with
         lines.lsel := false
         link.frame := .none
         link.response := []
         link.fillers := 0
         link.read := (match s0.link.read with
           | .outstanding _ => .outstanding false
           | .none => .none)
         events.pendingSet :=
           if s0.link.frame = .awaiting ∧ bytesOfBits bits ≠ [] then
             raiseIn (.linkError 1 0) s0.events.pendingSet
           else s0.events.pendingSet })) ∧
   (∀ (i : Instr) (s s0 : State), s.closesTo s0 → Instr.isLinkPart i = true →
     s0.link.frame ≠ .awaiting → exec i s = .next (State.finish s0))) ∧
  ((∀ (code : Byte) (s s0 : State), s.closesTo s0 → s0.link.frame = .awaiting →
     (code.toNat = 0 ∨ 12 < code.toNat) →
     exec (.unknownCommand code) s = .next (State.finish
       { s0 with link.frame := .answered, link.response := [0x09, 0x51], link.fillers := 0 })) ∧
   (∀ (part : List Byte) (s s0 : State), s.closesTo s0 → s0.link.frame = .awaiting →
     partLength part = some part.length → byteSum part ≠ 0x5A →
     exec (.badCheckFrame part) s = .next (State.finish
       { s0 with
         link.frame := .answered
         link.response := [0x08, 0x52]
         link.fillers := 0
         events.pendingSet := raiseIn (.linkError 0 1) s0.events.pendingSet })))

/-- STATUS (R171, R179): OK with the 17 bytes of the STATUS record and a check byte that makes the
response sum to 5Ah; nothing else changes, the last-command fields included (R169). The group state
codes, and the bitmap with bit k - 1 for the kind of priority k, are those of R179. That the capacity is
0 whenever no anchor is live, in CONFIGURING too, is read from the description by inference (log entry
16). -/
def Obligations.StatusEffect : Prop :=
  ∀ s s0 : State, s.closesTo s0 → s0.link.frame = .awaiting →
    ∃ check : Byte,
      byteSum ((0x01 :: State.statusRecord s0) ++ [check]) = 0x5A ∧
      exec .status s = .next (State.finish
        { s0 with
          link.frame := .answered
          link.response := (0x01 :: State.statusRecord s0) ++ [check]
          link.fillers := 0 }) ∧
      (GroupState.code s0.group.state =
        match s0.group.state with
        | .recovering => 0x01
        | .unconfigured => 0x02
        | .halted => 0x03
        | .idle => 0x04
        | .opening => 0x05
        | .groupOpen => 0x06
        | .committing => 0x07
        | .rollingBack => 0x08
        | .aborted => 0x09
        | .configuring => 0x0A) ∧
      (∀ k, (kindsBitmap s0.events.pendingSet).getLsbD k = true ↔
        ∃ p ∈ s0.events.pendingSet, Event.priority p.event = k + 1) ∧
      State.statusRecord s0 =
        [GroupState.code s0.group.state] ++
        wordBytes (BitVec.ofNat 16 (match s0.journal.header with
          | some h => h.group
          | none => 0)) ++
        wordBytes (BitVec.ofNat 16 s0.journal.written) ++
        wordBytes (BitVec.ofNat 16 s0.journal.reserved) ++
        wordBytes (BitVec.ofNat 16
          (if s0.anchor.isLive then 64 * (wordAtIndex s0.anchor.live 3).toNat - 2 else 0)) ++
        [BitVec.ofNat 8 s0.queue.length,
         (match s0.power with
           | .normal => 0x00
           | .draining => 0x01
           | .safe => 0x02)] ++
        wordBytes (kindsBitmap s0.events.pendingSet) ++
        [BitVec.ofNat 8 ((if s0.intLine then 1 else 0) + (if s0.failLine then 2 else 0) +
           (if s0.safeLine then 4 else 0)),
         s0.link.code, s0.link.status, s0.link.reason]

/-- NEXT_EVENT (R160): the entry of highest priority leaves the set, whatever the mask, and its record
is the answer; on an empty set the answer is NONE and the set stays. The kinds' codes and details are
those of R179.
SET_MASK (R161, R171, R180): in RECOVERING BUSY; otherwise the mask takes bits 0 to 10 of the
argument. -/
def Obligations.EventCommands : Prop :=
  ((∀ s s0 : State, s.closesTo s0 → s0.link.frame = .awaiting → s0.events.pendingSet = [] →
     exec .nextEvent s = .next (State.finish (State.answer .nextEvent .none [] s0))) ∧
   (∀ (s s0 : State) (p : PendingEvent), s.closesTo s0 → s0.link.frame = .awaiting →
     s0.eventsSound → p ∈ s0.events.pendingSet →
     (∀ q ∈ s0.events.pendingSet, Event.priority p.event ≤ Event.priority q.event) →
     exec .nextEvent s = .next (State.finish
       (State.answer .nextEvent .ok
         (BitVec.ofNat 8 (Event.priority p.event) :: BitVec.ofNat 8 p.repeats ::
           (Event.detail p.event).flatMap (fun n => wordBytes (BitVec.ofNat 16 n)))
         { s0 with events.pendingSet := s0.events.pendingSet.filter (fun q => q != p) })))) ∧
  (∀ e : Event, (Event.priority e, Event.detail e) =
    match e with
    | .anchorInvalid .mark => (1, [1, 0, 0])
    | .anchorInvalid .check => (1, [2, 0, 0])
    | .anchorInvalid .range => (1, [3, 0, 0])
    | .journalUnreadable .header offset => (2, [1, offset, 0])
    | .journalUnreadable .image offset => (2, [2, offset, 0])
    | .recovered group images => (3, [group, images, 0])
    | .groupAborted group .abortCmd images => (4, [group, 1, images])
    | .groupAborted group .ageLimit images => (4, [group, 2, images])
    | .groupAborted group .recovery images => (4, [group, 3, images])
    | .journalFull group block => (5, [group, block / 65536, block % 65536])
    | .accessRefused addr write reason =>
      (6, [addr.toNat / 65536 + (if write then 256 else 0), addr.toNat % 65536,
        match reason with
        | .outsideGroup => 1
        | .journalFull => 2
        | .frozen => 3
        | .protectedArea => 4
        | .badBurst => 5
        | .groupAborted => 6
        | .unavailable => 7
        | .unmapped => 8
        | .powerFail => 9])
    | .scanMismatch region value => (7, [region, value.toNat, 0])
    | .scanDone region value matched => (8, [region, value.toNat, if matched then 1 else 0])
    | .anchorStored formatted => (9, [if formatted then 1 else 0, 0, 0])
    | .groupCommitted group images => (10, [group, images, 0])
    | .linkError cut badCheck => (11, [cut, badCheck, 0])) ∧
  (∀ (w : Word) (s s0 : State), s.closesTo s0 → s0.link.frame = .awaiting →
     exec (.setMask w) s = .next (State.finish
       (if s0.group.state = .recovering then State.answer (.setMask w) .busy [] s0
        else State.answer (.setMask w) .ok [] { s0 with events.mask := w.extractLsb' 0 11 })))

/-- READ_LIVE and READ_STAGE (R170, R172): BUSY in RECOVERING, INVALID RANGE outside the copy, and
otherwise OK with the words of the copy, high byte first; the copy stays.
STAGE and COPY_LIVE_TO_STAGE (R87, R172): BUSY in RECOVERING and CONFIGURING; STAGE outside the
copy is INVALID RANGE and changes nothing, and inside it replaces the words given and no other; COPY
sets the staging copy to the live copy. -/
def Obligations.AnchorCopyCommands : Prop :=
  (∀ (o n : Byte) (s s0 : State), s.closesTo s0 → s0.link.frame = .awaiting →
     (s0.group.state = .recovering →
       exec (.readLive o n) s =
         .next (State.finish (State.answer (.readLive o n) .busy [] s0)) ∧
       exec (.readStage o n) s =
         .next (State.finish (State.answer (.readStage o n) .busy [] s0))) ∧
     (s0.group.state ≠ .recovering →
       (o.toNat ≤ 41 ∧ 1 ≤ n.toNat ∧ n.toNat ≤ 8 ∧ o.toNat + n.toNat ≤ 42 →
         exec (.readLive o n) s = .next (State.finish (State.answer (.readLive o n) .ok
           (wordsBytes ((s0.anchor.live.drop o.toNat).take n.toNat)) s0)) ∧
         exec (.readStage o n) s = .next (State.finish (State.answer (.readStage o n) .ok
           (wordsBytes ((s0.anchor.staging.drop o.toNat).take n.toNat)) s0))) ∧
       (41 < o.toNat ∨ n.toNat = 0 ∨ 8 < n.toNat ∨ 42 < o.toNat + n.toNat →
         exec (.readLive o n) s =
           .next (State.finish (State.answerInvalid (.readLive o n) .range s0)) ∧
         exec (.readStage o n) s =
           .next (State.finish (State.answerInvalid (.readStage o n) .range s0))))) ∧
  ((∀ (o n : Byte) (ws : List Word) (s s0 : State), s.closesTo s0 → s0.link.frame = .awaiting →
     stageWordsWf n ws = true →
     (s0.group.state = .recovering ∨ s0.group.state = .configuring →
       exec (.stage o n ws) s =
         .next (State.finish (State.answer (.stage o n ws) .busy [] s0)) ∧
       exec .copyLiveToStage s =
         .next (State.finish (State.answer .copyLiveToStage .busy [] s0))) ∧
     (s0.group.state ≠ .recovering → s0.group.state ≠ .configuring →
       exec .copyLiveToStage s = .next (State.finish
         (State.answer .copyLiveToStage .ok [] { s0 with anchor.staging := s0.anchor.live })) ∧
       (41 < o.toNat ∨ n.toNat = 0 ∨ 8 < n.toNat ∨ 42 < o.toNat + n.toNat →
         exec (.stage o n ws) s =
           .next (State.finish (State.answerInvalid (.stage o n ws) .range s0))) ∧
       (o.toNat ≤ 41 ∧ 1 ≤ n.toNat ∧ n.toNat ≤ 8 ∧ o.toNat + n.toNat ≤ 42 →
         s0.anchor.staging.length = 42 →
         ∃ staged : List Word,
           exec (.stage o n ws) s = .next (State.finish
             (State.answer (.stage o n ws) .ok [] { s0 with anchor.staging := staged })) ∧
           staged.length = 42 ∧
           ∀ k, k < 42 → staged.getD k 0 =
             if o.toNat ≤ k ∧ k < o.toNat + n.toNat then ws.getD (k - o.toNat) 0
             else s0.anchor.staging.getD k 0))))

/-- READ_JOURNAL (R174): the cases in order, and otherwise a request for the words at the journal
offset, with status 00h standing for an answer not yet given (R169). Its completion answers OK with
the words when its frame still stands, after a number of filler bytes that is free (R167; log entry
28), and only ends the outstanding read when it does not. That the answer is NO_JOURNAL whenever no
anchor is live, in CONFIGURING too, is read from the description by inference (log entry 16), and which
last-command fields the outcome fills is log entry 15. -/
def Obligations.JournalReads : Prop :=
  (∀ (o : Word) (n : Byte) (s s0 : State), s.closesTo s0 → s0.link.frame = .awaiting →
    ((s0.group.state = .recovering ∧ s0.anchor.isLive = false) ∨ s0.lines.pfail = true ∨
        s0.link.read ≠ .none →
      exec (.readJournal o n) s =
        .next (State.finish (State.answer (.readJournal o n) .busy [] s0))) ∧
    ((s0.group.state = .recovering → s0.anchor.isLive = true) → s0.lines.pfail = false →
      s0.link.read = .none →
      (s0.anchor.isLive = false →
        exec (.readJournal o n) s =
          .next (State.finish (State.answerInvalid (.readJournal o n) .noJournal s0))) ∧
      (s0.anchor.isLive = true →
        (n.toNat = 0 ∨ 8 < n.toNat ∨
            512 * (wordAtIndex s0.anchor.live 3).toNat < o.toNat + n.toNat →
          exec (.readJournal o n) s =
            .next (State.finish (State.answerInvalid (.readJournal o n) .range s0))) ∧
        (1 ≤ n.toNat ∧ n.toNat ≤ 8 ∧
            o.toNat + n.toNat ≤ 512 * (wordAtIndex s0.anchor.live 3).toNat →
          exec (.readJournal o n) s = .next (State.finish (State.request
            { purpose := .linkRead
              addr := (wordAtIndex s0.anchor.live 2).toNat * 512 + o.toNat
              body := .read n.toNat }
            { s0 with
              link.frame := .answered
              link.response := []
              link.fillers := 0
              link.code := 0x0B
              link.status := 0x00
              link.reason := 0x00
              link.read := .outstanding true })))))) ∧
  (∀ (t : Transfer) (s s0 : State), s.completes .linkRead t s0 →
    (s0.link.read = .outstanding true →
      ∃ check : Byte,
        exec .linkJournalReadComplete s = .next (State.finish
          { State.completed t s0 with
            link.read := .none
            link.frame := .answered
            link.status := if s0.link.code = 0x0B ∧ s0.link.status = 0x00 then 0x01
                           else s0.link.status
            link.response := (0x01 :: wordsBytes (Transfer.wordsRead t s0.mem)) ++ [check]
            link.fillers := Config.freeFillers s0.freeCount
            freeCount := s0.freeCount + 1 }) ∧
        byteSum ((0x01 :: wordsBytes (Transfer.wordsRead t s0.mem)) ++ [check]) = 0x5A) ∧
    (s0.link.read = .outstanding false →
      exec .linkJournalReadComplete s = .next (State.finish
        { State.completed t s0 with
          link.read := .none
          link.status := if s0.link.code = 0x0B ∧ s0.link.status = 0x00 then 0x01
                         else s0.link.status })))

/-- SCAN_REGION (the table of R154, first matching row). -/
def Obligations.ScanRegionEffect : Prop :=
  ∀ (i : Byte) (s s0 : State), s.closesTo s0 → s0.link.frame = .awaiting →
    exec (.scanRegion i) s = .next (State.finish
      (if s0.group.state = .recovering ∨ s0.group.state = .unconfigured ∨
          s0.group.state = .halted ∨ s0.group.state = .configuring then
        State.answer (.scanRegion i) .busy [] s0
      else if s0.lines.pfail then State.answer (.scanRegion i) .busy [] s0
      else if s0.scanner.scan ≠ .none then State.answer (.scanRegion i) .busy [] s0
      else if 7 < i.toNat then State.answerInvalid (.scanRegion i) .regionIndex s0
      else if regionAttr s0.anchor.live i.toNat = .none then
        State.answerInvalid (.scanRegion i) .regionUnused s0
      else State.answer (.scanRegion i) .started [] (State.startScan .onRequest i.toNat s0)))

/-- STORE_ANCHOR (R89, R90, R91, R93): BUSY outside IDLE, UNCONFIGURED, HALTED or the condition
NORMAL; INVALID with the reason of the first failing test; otherwise STARTED, and CONFIGURING is
entered with the scanner idle.
FORMAT (R97): BUSY outside IDLE and HALTED or the condition NORMAL; otherwise STARTED, CONFIGURING
is entered with the scanner idle and the format step is handed over. -/
def Obligations.StoreAndFormatCommands : Prop :=
  (∀ s s0 : State, s.closesTo s0 → s0.link.frame = .awaiting →
     ((s0.group.state ≠ .idle ∧ s0.group.state ≠ .unconfigured ∧ s0.group.state ≠ .halted) ∨
         s0.power ≠ .normal →
       exec .storeAnchor s = .next (State.finish (State.answer .storeAnchor .busy [] s0))) ∧
     ((s0.group.state = .idle ∨ s0.group.state = .unconfigured ∨ s0.group.state = .halted) →
       s0.power = .normal →
       (∀ r, storeFault s0.anchor.staging s0.anchor.live
             (decide (s0.group.state ≠ .unconfigured)) = some r →
         exec .storeAnchor s =
           .next (State.finish (State.answerInvalid .storeAnchor r s0))) ∧
       (storeFault s0.anchor.staging s0.anchor.live
             (decide (s0.group.state ≠ .unconfigured)) = none →
         exec .storeAnchor s = .next (State.finish (State.answer .storeAnchor .started []
           (State.markRelease
             { State.idleScanner s0 with
               group.state := .configuring
               anchor.job := some
                 { store := true
                   formats := decide (s0.group.state ≠ .idle ∨
                     anchorBase s0.anchor.staging ≠ anchorBase s0.anchor.live ∨
                     anchorLength s0.anchor.staging ≠ anchorLength s0.anchor.live)
                   fromUnconfigured := decide (s0.group.state = .unconfigured)
                   stage := .waitingQuiet } })))))) ∧
  (∀ s s0 : State, s.closesTo s0 → s0.link.frame = .awaiting →
     ((s0.group.state ≠ .idle ∧ s0.group.state ≠ .halted) ∨ s0.power ≠ .normal →
       exec .format s = .next (State.finish (State.answer .format .busy [] s0))) ∧
     ((s0.group.state = .idle ∨ s0.group.state = .halted) → s0.power = .normal →
       exec .format s = .next (State.finish (State.answer .format .started []
         (State.markRelease
           { State.idleScanner s0 with
             group.state := .configuring
             journal.handed := some .format
             anchor.job := some
               { store := false, formats := true, fromUnconfigured := false,
                 stage := .waitingQuiet } })))))

/-! ## The host bus port -/

/-- What classification makes of an access (R50, R51, R59, R134, R135, R136): a refusal with its
event, a hold, a read that waits on the queue or asks for its transfer, and a plain write that is
answered without an entry, forms or waits. -/
def Obligations.ClassifiedAccess : Prop :=
  ∀ (a : Access) (s : State),
    (∀ r, State.verdict a s = .refuse r →
      State.classify a s =
        { s with
          host.access := some { a with phase := .refused r }
          events.pendingSet := raiseIn (.accessRefused a.addr a.write r) s.events.pendingSet }) ∧
    (State.verdict a s = .hold →
      State.classify a s = { s with host.access := some { a with phase := .held false } }) ∧
    (State.verdict a s = .serve →
      ((∃ e ∈ s.queue, e.block = Access.block a) →
        State.classify a s = { s with host.access := some { a with phase := .readQueued } }) ∧
      ((∀ e ∈ s.queue, e.block ≠ Access.block a) →
        State.classify a s = State.request
          { purpose := .hostRead, addr := a.addr.toNat / 2, body := .read a.lanes.length }
          { s with host.access := some { a with phase := .readRequested } })) ∧
    (State.verdict a s = .postPlain →
      (a.write = true ∧ (∀ l ∈ a.lanes, l = LaneSet.none) →
        State.classify a s = { s with host.access := some { a with phase := .silent } }) ∧
      (a.write = true ∧ (∃ l ∈ a.lanes, l ≠ LaneSet.none) →
        (s.queue.length < 8 →
          State.classify a s =
            { s with
             host.access := some
                { a with phase := .forming { tag := .plain, claimed := false } } }) ∧
        (8 ≤ s.queue.length →
          State.classify a s =
            { s with
             host.access := some
                { a with phase := .waiting { tag := .plain, claimed := false } } })))

/-- The reservation of a group write (R34, R36, R133): a block in the set reserves nothing; with the
capacity reached the write is refused JOURNAL_FULL and nothing else changes; otherwise an image is
reserved and the block claimed if the set has room. A write with every lane set none reserves
nothing (R51). -/
def Obligations.GroupWriteReserved : Prop :=
  ∀ (a : Access) (s : State), State.verdict a s = .postGroup → a.write = true →
    ((∀ l ∈ a.lanes, l = LaneSet.none) →
      State.classify a s = { s with host.access := some { a with phase := .silent } }) ∧
    ((∃ l ∈ a.lanes, l ≠ LaneSet.none) →
      ((∃ b ∈ s.journal.saved, b.block = Access.block a) →
        State.classify a s =
          { s with
           host.access := some
              { a with
                phase := if s.queue.length < 8 then
                    .forming { tag := .group s.groupNumber false, claimed := false }
                  else .waiting { tag := .group s.groupNumber false, claimed := false } } }) ∧
      ((∀ b ∈ s.journal.saved, b.block ≠ Access.block a) →
        (s.journal.written + s.journal.reserved = s.capacity →
          State.classify a s =
            { s with
              host.access := some { a with phase := .refused .journalFull }
              events.pendingSet :=
                raiseIn (.journalFull s.groupNumber (Access.block a)) s.events.pendingSet }) ∧
        (s.journal.written + s.journal.reserved ≠ s.capacity →
          State.classify a s =
            { s with
              host.access := some
                { a with
                  phase := if s.queue.length < 8 then
                      .forming { tag := .group s.groupNumber true,
                                 claimed := decide (s.journal.saved.length < 32) }
                    else .waiting { tag := .group s.groupNumber true,
                                    claimed := decide (s.journal.saved.length < 32) } }
              journal.reserved := s.journal.reserved + 1
              journal.saved :=
                if s.journal.saved.length < 32 then
                  s.journal.saved ++ [{ block := Access.block a, state := .claimed }]
                else s.journal.saved })))

/-- HOST_ADDRESS_PHASE (R127): with no access on the bus, the access is classified, with the lanes of
R127; while one is carried no address phase is taken. HELD_ACCESS_RELEASE (R137): an access whose
release has come is classified again; without such a moment it stays held.
WAITING_WRITE_TAKES_PLACE (R53): with a place free the waiting write becomes forming.
QUEUED_READ_PROCEEDS (R59): with no entry naming its block left, the read asks for its transfer.
HOST_READ_TRANSFER_COMPLETE (R135): all words have come back and are kept with the access. -/
def Obligations.HostBusCommands : Prop :=
  ((∀ (p : AddressPhase) (s s0 : State), s.closesTo s0 → p.wf = true → s0.host.access = none →
     ∃ a : Access,
       exec (.hostAddressPhase p) s =
         .next (State.finish (State.classify a { s0 with host.answer := none })) ∧
       a.addr = p.addr ∧ a.write = p.write ∧ a.answered = 0 ∧ a.received = [] ∧
       (p.write = false → a.lanes = List.replicate p.count .both) ∧
       (p.write = true → p.singleByte = false → a.lanes = p.lanes) ∧
       (p.write = true → p.singleByte = true →
         a.lanes = [if p.addr.toNat % 2 = 1 then LaneSet.high else LaneSet.low])) ∧
   (∀ (p : AddressPhase) (s s0 : State), s.closesTo s0 → s0.host.access ≠ none →
     exec (.hostAddressPhase p) s = .next (State.finish s0)) ∧
   (∀ (a : Access) (s : State), s.running = true → s.host.access = some a →
     (a.phase = .held true →
       exec .heldAccessRelease s = .next (State.finish (State.classify a s))) ∧
     (a.phase ≠ .held true → exec .heldAccessRelease s = .next (State.finish s)))) ∧
  ((∀ (a : Access) (post : Post) (s : State), s.running = true → s.host.access = some a →
     a.phase = .waiting post → s.queue.length < 8 →
     exec .waitingWriteTakesPlace s = .next (State.finish
       { s with host.access := some { a with phase := .forming post } })) ∧
   (∀ (a : Access) (s : State), s.running = true → s.host.access = some a →
     a.phase = .readQueued → (∀ e ∈ s.queue, e.block ≠ Access.block a) →
     exec .queuedReadProceeds s = .next (State.finish (State.request
       { purpose := .hostRead, addr := a.addr.toNat / 2, body := .read a.lanes.length }
       { s with host.access := some { a with phase := .readRequested } }))) ∧
   (∀ (t : Transfer) (a : Access) (s s0 : State), s.completes .hostRead t s0 →
     s0.host.access = some a → a.phase = .readRequested →
     exec .hostReadTransferComplete s = .next (State.finish
       { State.completed t s0 with
         host.access := some { a with phase := .readDone (Transfer.wordsRead t s0.mem) } })))

/-- HOST_DATA_PHASE (R128, R50, R51, R52, R55, R135): by the phase of the access, REFUSE, ACK, ACK
with the word, or no answer; after the last data phase the access has left, and a forming access has
formed its entry at the tail. A word of a read but the last may come back, and be answered, while the
transfer is in flight; whether it has is a free value (log entry 29). -/
def Obligations.DataPhases : Prop :=
  ∀ (w : Word) (a : Access) (s s0 : State), s.closesTo s0 → s0.host.access = some a →
    let go (received : List Word) : Option Access :=
      if a.answered + 1 < a.lanes.length then
        some { a with answered := a.answered + 1, received := received }
      else none
    (∀ r, a.phase = .refused r → exec (.hostDataPhase w) s = .next (State.finish
      { s0 with host := { access := go a.received, answer := some .refuse } })) ∧
    (a.phase = .silent ∨ a.phase = .discarding →
      exec (.hostDataPhase w) s = .next (State.finish
        { s0 with host := { access := go a.received, answer := some (.ack none) } })) ∧
    (∀ words, a.phase = .readDone words →
      exec (.hostDataPhase w) s = .next (State.finish
        { s0 with
         host :=
            { access := go a.received,
              answer := some (.ack (some (words.getD a.answered 0))) } })) ∧
    (∀ post, a.phase = .forming post →
      exec (.hostDataPhase w) s = .next (State.finish
        { s0 with
          host := { access := go (a.received ++ [w]), answer := some (.ack none) }
          queue :=
            if a.answered + 1 < a.lanes.length then s0.queue
            else s0.queue ++
              [{ block := a.addr.toNat / 8, first := a.addr.toNat / 2 % 4,
                 words := a.lanes.zip (a.received ++ [w]), tag := post.tag }] })) ∧
    (a.phase = .readRequested →
      (∀ t, s0.port.inFlight = some t → t.purpose = .hostRead → a.answered + 1 < a.lanes.length →
        exec (.hostDataPhase w) s = .next (State.finish
          (if Config.freeWordBack s0.freeCount = true then
            { s0 with
              host :=
                { access := some { a with answered := a.answered + 1 },
                  answer :=
                    some (.ack (some ((Transfer.wordsRead t s0.mem).getD a.answered 0))) }
              freeCount := s0.freeCount + 1 }
          else { s0 with host.answer := none, freeCount := s0.freeCount + 1 }))) ∧
      ((∀ t, s0.port.inFlight = some t → t.purpose ≠ .hostRead) ∨
          a.lanes.length ≤ a.answered + 1 →
        exec (.hostDataPhase w) s = .next (State.finish { s0 with host.answer := none }))) ∧
    (a.phase.isWaiting = true ∨ a.phase = .readQueued ∨ (∃ d, a.phase = .held d) →
      exec (.hostDataPhase w) s = .next (State.finish { s0 with host.answer := none }))

/-! ## The journal unit at work -/

/-- FORWARD_WORK_START (R37, R38, R39, R43, R44, R56): a free forward activity takes group work that
is ready first, and otherwise the head entry: its block read when it owes an image, else its data
write. -/
def Obligations.ForwardWorkStarts : Prop :=
  (∀ (e : Entry) (rest : List Entry) (s : State), s.running = true →
    s.journal.forward = none → s.queue = e :: rest →
    (∀ w, s.journal.handed = some w → State.workReady w s = false) →
    exec .forwardWorkStart s = .next (State.finish (State.request
      (if Tag.owesImage e.tag then
        { purpose := .blockRead, addr := e.block * 4, body := .read 4 }
      else { purpose := .dataWrite, addr := e.block * 4 + e.first, body := .write e.words })
      { s with journal.forward := some (.retire e false) }))) ∧
  (∀ (h : Header) (s : State), s.running = true → s.journal.forward = none →
    s.journal.handed = some .opening → s.journal.header = some h → h.group ≠ 4095 →
    exec .forwardWorkStart s = .next (State.finish
      (State.requestHeader .openingHeader (h.group + 1) h.highWater
        { s with
          journal.handed := none, journal.forward := some (.groupWork .opening 0) }))) ∧
  (∀ (h : Header) (s : State), s.running = true → s.journal.forward = none →
    s.journal.handed = some .opening → s.journal.header = some h → h.group = 4095 →
    exec .forwardWorkStart s = .next (State.finish
      (State.wipeStep 8
        { s with
          journal.handed := none, journal.forward := some (.groupWork .opening 0) }))) ∧
  (∀ (h : Header) (s : State), s.running = true → s.journal.forward = none →
    s.journal.handed = some .commit → s.journal.header = some h →
    (∀ e ∈ s.queue, Tag.isGroup e.tag = false) →
    s.accessIs AccessPhase.groupWritePending = false →
    exec .forwardWorkStart s = .next (State.finish (State.request
      { purpose := .commitRecord
        addr := (wordAtIndex s.anchor.live 2).toNat * 512 + (12 + 8 * s.journal.written)
        body := .write (bothLanes
          (commitRecordWords h.group s.journal.written s.group.duration)) }
      { s with
        journal.handed := none, journal.forward := some (.groupWork .commit 0) }))) ∧
  (∀ (h : Header) (cause : Cause) (n : Nat) (s : State), s.running = true →
    s.journal.forward = none → s.journal.handed = some (.closeRollback cause n) →
    s.journal.header = some h →
    exec .forwardWorkStart s = .next (State.finish
      (State.requestHeader .rollbackHeader h.group (max h.highWater (16 + 8 * n))
        { s with
          journal.handed := none
          journal.forward := some (.groupWork (.closeRollback cause n) 0) }))) ∧
  (∀ s : State, s.running = true → s.journal.forward ≠ none →
    exec .forwardWorkStart s = .next (State.finish s))

/-- The wipe (R44): zero words from the next offset up to the high-water, at most eight at a time;
past it, the header with group 0 and high-water 8.
OPENING_HEADER_COMPLETE (R25, R26, R28): the written slot becomes the current header, and the
OPEN record is requested at offset 8 with the age limit and the image capacity. -/
def Obligations.OpeningWork : Prop :=
  ((∀ (next : Nat) (h : Header) (s : State), s.journal.header = some h →
     (next < h.highWater →
       State.wipeStep next s = State.request
         { purpose := .wipe
           addr := (wordAtIndex s.anchor.live 2).toNat * 512 + next
           body := .write (List.replicate (min 8 (h.highWater - next)) (.both, 0)) }
         { s with
          journal.forward :=
             some (.groupWork .opening (next + min 8 (h.highWater - next))) }) ∧
     (h.highWater ≤ next →
       State.wipeStep next s = State.requestHeader .wipeHeader 0 8
         { s with journal.forward := some (.groupWork .opening next) })) ∧
   (∀ (t : Transfer) (next : Nat) (s s0 : State), s.completes .wipe t s0 →
     s0.journal.forward = some (.groupWork .opening next) →
     exec .wipeTransferComplete s =
       .next (State.finish (State.wipeStep next (State.completed t s0)))) ∧
   (∀ (t : Transfer) (h : Header) (s s0 : State), s.completes .wipeHeader t s0 →
     s0.journal.slotWriting = some h →
     exec .wipeHeaderComplete s = .next (State.finish
       (State.requestHeader .openingHeader (h.group + 1) h.highWater
         { State.completed t s0 with
           journal.header := some h, journal.slotWriting := none })))) ∧
  (∀ (t : Transfer) (h : Header) (s s0 : State), s.completes .openingHeader t s0 →
     s0.journal.slotWriting = some h → s0.anchor.isLive = true →
     exec .openingHeaderComplete s = .next (State.finish (State.request
       { purpose := .openRecord
         addr := (wordAtIndex s0.anchor.live 2).toNat * 512 + 8
         body := .write (bothLanes (openRecordWords h.group
           (wordAtIndex s0.anchor.live 7).toNat
           (64 * (wordAtIndex s0.anchor.live 3).toNat - 2))) }
       { State.completed t s0 with
         journal.header := some h, journal.slotWriting := none })))

/-- OPEN_RECORD_COMPLETE: how the controller leaves OPENING, the first matching row deciding (R11);
an abort goes to the UNDONE record at once with 0 images (R66, R67, R72, R74); the next offset of a
rollback of no images is left open here (R67; log entry 27). -/
def Obligations.OpeningEnds : Prop :=
  ∀ (t : Transfer) (s s0 : State), s.completes .openRecord t s0 →
    (s0.group.abortPending = true → ∃ next : Nat,
      exec .openRecordComplete s = .next (State.finish (State.request
        { purpose := .undoneWrite
          addr := (wordAtIndex s0.anchor.live 2).toNat * 512 + 12
          body := .write (bothLanes (undoneRecordWords s0.groupNumber 0 .abortCmd)) }
        (State.markRelease
          { State.completed t s0 with
            group.state := .rollingBack
            group.abortPending := false
            group.closePending := false
            group.openPending := false
            journal.forward := none
            journal.backward := .restoring
              { group := s0.groupNumber, cause := .abortCmd, total := 0, next := next,
                restored := 0 } })))) ∧
    (s0.group.abortPending = false → s0.group.closePending = true →
      exec .openRecordComplete s = .next (State.finish (State.markRelease
        { State.completed t s0 with
          group.state := .committing
          group.closePending := false
          journal.forward := none
          journal.handed := some .commit }))) ∧
    (s0.group.abortPending = false → s0.group.closePending = false →
      exec .openRecordComplete s = .next (State.finish (State.markRelease
        { State.completed t s0 with
          group.state := .groupOpen
          group.age := 0
          journal.forward := none })))

/-- The transfers of a retirement (R38, R39, R41): the block read is followed by the IMAGE record at
offset 12 + 8 × images written, the IMAGE record counts and marks its block SAVED and is followed by
the data write, and the data write lets the entry leave the queue. An entry that an abort removed
goes no further than its transfer in flight.
COMMIT_RECORD_COMPLETE and COMMIT_HEADER_COMPLETE (R12, R13, R30, R31, R45): the closing header
with the raised high-water; then the set is cleared, GROUP_COMMITTED is raised, and the controller
goes to OPENING when OPEN_PENDING is set, else to IDLE. -/
def Obligations.CommitAndRetirement : Prop :=
  ((∀ (t : Transfer) (e : Entry) (s s0 : State), s.completes .blockRead t s0 →
     s0.journal.forward = some (.retire e false) →
     exec .blockReadComplete s = .next (State.finish (State.request
       { purpose := .imageWrite
         addr := (wordAtIndex s0.anchor.live 2).toNat * 512 + (12 + 8 * s0.journal.written)
         body := .write (bothLanes (imageRecordWords (Tag.number e.tag) e.block
           (Transfer.wordsRead t s0.mem))) }
       (State.completed t s0)))) ∧
   (∀ (t : Transfer) (e : Entry) (s s0 : State), s.completes .blockRead t s0 →
     s0.journal.forward = some (.retire e true) →
     exec .blockReadComplete s = .next (State.finish
       { State.completed t s0 with journal.forward := none })) ∧
   (∀ (t : Transfer) (e : Entry) (r : Bool) (s s0 : State), s.completes .imageWrite t s0 →
     s0.journal.forward = some (.retire e r) →
     let saved := s0.journal.saved.map
       (fun b => if b.block = e.block then { b with state := SavedState.saved } else b)
     exec .imageRecordComplete s = .next (State.finish
       (if r then
         { State.completed t s0 with
           journal.written := s0.journal.written + 1
           journal.saved := saved
           journal.forward := none }
       else State.request
         { purpose := .dataWrite, addr := e.block * 4 + e.first, body := .write e.words }
         { State.completed t s0 with
           journal.written := s0.journal.written + 1
           journal.reserved := s0.journal.reserved - 1
           journal.saved := saved }))) ∧
   (∀ (t : Transfer) (e : Entry) (rest : List Entry) (s s0 : State),
     s.completes .dataWrite t s0 → s0.queue = e :: rest →
     exec .dataWriteComplete s = .next (State.finish
       { State.completed t s0 with queue := rest, journal.forward := none }))) ∧
  ((∀ (t : Transfer) (h : Header) (s s0 : State), s.completes .commitRecord t s0 →
     s0.journal.header = some h →
     exec .commitRecordComplete s = .next (State.finish
       (State.requestHeader .commitHeader h.group
         (max h.highWater (16 + 8 * s0.journal.written)) (State.completed t s0)))) ∧
   (∀ (t : Transfer) (h : Header) (s s0 : State), s.completes .commitHeader t s0 →
     s0.journal.slotWriting = some h →
     let s1 : State :=
       { State.completed t s0 with
         journal.header := some h
         journal.slotWriting := none
         journal.forward := none
         journal.saved := []
         events.pendingSet :=
           raiseIn (.groupCommitted h.group s0.journal.written) s0.events.pendingSet }
     exec .commitHeaderComplete s = .next (State.finish
       (if s0.group.openPending then State.markRelease
         { s1 with
           group.state := .opening
           group.openPending := false
           group.duration := 0
           journal.written := 0
           journal.reserved := 0
           journal.handed := some .opening }
       else State.enterIdle s1))))

/-! ## Rollback and recovery -/

/-- BACKWARD_ACTIVITY_START (R67, R72): not while the forward activity has a transfer in flight; then
the newest IMAGE record is read, or with no image the UNDONE record is written. That a rollback of no
images holds the next offset 12 is the model's choice (log entry 27). While the rollback is due, no
command puts a transfer into flight (R70).
The restorations (R68, R69, R72): a record that passes is followed by the write of its four old
words to its block; one that fails halts the journal; a block write is followed by the next older
record, or by the UNDONE record at 12 + 8 × w.
UNDONE_RECORD_COMPLETE (R72, R73, R110) hands the closing header to the forward activity;
ROLLBACK_HEADER_COMPLETE (R16, R73) empties the set, raises GROUP_ABORTED and enters ABORTED or IDLE
by the level of GRP. -/
def Obligations.RollbackSteps : Prop :=
  (∀ (c : Instr) (g g' : Nat) (cause cause' : Cause) (s t : State),
     s.journal.backward = .rollbackDue g cause → exec c s = .next t →
     t.journal.backward = .rollbackDue g' cause' →
     t.port.inFlight = s.port.inFlight ∨ t.port.inFlight = none) ∧
  (∀ (g : Nat) (cause : Cause) (s : State), s.running = true →
     s.journal.backward = .rollbackDue g cause →
     (s.inFlightFor .forward = true →
       exec .backwardActivityStart s = .next (State.finish s)) ∧
     (s.inFlightFor .forward = false → s.journal.written = 0 →
       exec .backwardActivityStart s = .next (State.finish (State.request
         { purpose := .undoneWrite
           addr := (wordAtIndex s.anchor.live 2).toNat * 512 + 12
           body := .write (bothLanes (undoneRecordWords g 0 cause)) }
         { s with
           journal.backward := .restoring
             { group := g, cause := cause, total := 0, next := 12, restored := 0 } }))) ∧
     (s.inFlightFor .forward = false → 0 < s.journal.written →
       exec .backwardActivityStart s = .next (State.finish (State.request
         { purpose := .imageRead
           addr := (wordAtIndex s.anchor.live 2).toNat * 512 +
             (12 + 8 * (s.journal.written - 1))
           body := .read 8 }
         { s with
           journal.backward := .restoring
             { group := g, cause := cause, total := s.journal.written,
               next := 12 + 8 * (s.journal.written - 1), restored := 0 } })))) ∧
  ((∀ (t : Transfer) (r : Rollback) (s s0 : State), s.completes .imageRead t s0 →
     s0.journal.backward = .restoring r →
     (imageRecordOk s0.anchor.live r.group (Transfer.wordsRead t s0.mem) = true →
       exec .imageRecordReadComplete s = .next (State.finish (State.request
         { purpose := .restoreWrite
           addr := imageRecordBlock (Transfer.wordsRead t s0.mem) * 4
           body := .write (bothLanes (imageRecordOld (Transfer.wordsRead t s0.mem))) }
         (State.completed t s0)))) ∧
     (imageRecordOk s0.anchor.live r.group (Transfer.wordsRead t s0.mem) = false →
       exec .imageRecordReadComplete s = .next (State.finish
         (State.haltJournal .image r.next (State.completed t s0))))) ∧
   (∀ (t : Transfer) (r : Rollback) (s s0 : State), s.completes .restoreWrite t s0 →
     s0.journal.backward = .restoring r →
     let r' : Rollback := { r with restored := r.restored + 1, next := r.next - 8 }
     exec .restoreBlockWriteComplete s = .next (State.finish
       (if r.restored + 1 = r.total then State.request
         { purpose := .undoneWrite
           addr := (wordAtIndex s0.anchor.live 2).toNat * 512 + (12 + 8 * r.total)
           body := .write (bothLanes (undoneRecordWords r.group r.total r.cause)) }
         { State.completed t s0 with journal.backward := .restoring r' }
       else State.request
         { purpose := .imageRead
           addr := (wordAtIndex s0.anchor.live 2).toNat * 512 + (r.next - 8)
           body := .read 8 }
         { State.completed t s0 with journal.backward := .restoring r' })))) ∧
  ((∀ (t : Transfer) (r : Rollback) (s s0 : State), s.completes .undoneWrite t s0 →
     s0.journal.backward = .restoring r →
     exec .undoneRecordComplete s = .next (State.finish
       { State.completed t s0 with
         journal.backward := .idle
         journal.handed := some
           (if r.cause = .recovery then .closeRecovery r.restored
            else .closeRollback r.cause r.restored) })) ∧
   (∀ (t : Transfer) (h : Header) (cause : Cause) (n k : Nat) (s s0 : State),
     s.completes .rollbackHeader t s0 → s0.journal.slotWriting = some h →
     s0.journal.forward = some (.groupWork (.closeRollback cause n) k) →
     let s1 : State :=
       { State.completed t s0 with
         journal.header := some h
         journal.slotWriting := none
         journal.forward := none
         journal.saved := []
         events.pendingSet := raiseIn (.groupAborted h.group cause n) s0.events.pendingSet }
     exec .rollbackHeaderComplete s = .next (State.finish
       (if s0.lines.grp then State.markRelease { s1 with group.state := .aborted }
        else State.enterIdle s1))))

/-- ANCHOR_LOAD_COMPLETE (R86, R87, R88, R102): the six reads complete, each filling its words of the
live copy and asking for the next (R141), all within one step (log entry 7). A valid anchor is live, is
copied to the staging copy and sets the mask, the time base starts, and the header slots are read; an
invalid one leads to UNCONFIGURED with ANCHOR_INVALID.
HEADER_SLOTS_READ_COMPLETE (R104, R105, R111): no valid slot halts the journal; group 0 leaves
nothing to walk and recovery finishes in IDLE; otherwise the walk begins at offset 8. -/
def Obligations.AnchorLoadAndHeaderChoice : Prop :=
  (∀ (addr n : Nat) (s : State),
     s.port.inFlight = some { purpose := .anchorLoad, addr := addr, body := .read n } →
     s.port.requests = Requests.empty → s.journal.backward = .idle → addr + 8 < 42 →
     State.loadReads 1 s =
       { s with
         port.inFlight := some
           { purpose := .anchorLoad, addr := addr + 8, body := .read (min 8 (34 - addr)) }
         port.discard := false
         anchor.live := (List.range 42).map (fun k =>
           if addr ≤ k ∧ k < addr + n then (Memory.words s.mem addr n).getD (k - addr) 0
           else s.anchor.live.getD k 0) }) ∧
  (∀ s s0 : State, s.closesTo s0 →
     s0.port.inFlight = some { purpose := .anchorLoad, addr := 0, body := .read 8 } →
     s0.port.requests = Requests.empty → s0.journal.backward = .idle →
     let ws := Memory.words s0.mem 0 42
     (anchorFault ws = none →
       exec .anchorLoadComplete s = .next (State.finish (State.request
         { purpose := .slotsRead
           addr := (wordAtIndex ws 2).toNat * 512
           body := .read 8 }
         (State.markRelease
           { s0 with
             port.inFlight := none
             port.discard := false
             anchor.live := ws
             anchor.staging := ws
             anchor.isLive := true
             events.mask := (wordAtIndex ws 5).extractLsb' 0 11
             journal.backward := .headerChoice
             group.timeRunning := true
             group.clkCount := 0
             group.divisor := wordAtIndex ws 6 })))) ∧
     (∀ reason, anchorFault ws = some reason →
       exec .anchorLoadComplete s = .next (State.finish (State.markRelease
         { s0 with
           port.inFlight := none
           port.discard := false
           group.state := .unconfigured
           anchor.live := ws
           anchor.staging := List.replicate 42 0
           anchor.isLive := false
           events.pendingSet := raiseIn (.anchorInvalid reason) s0.events.pendingSet })))) ∧
  (∀ (t : Transfer) (s s0 : State), s.completes .slotsRead t s0 →
     let words := 512 * (wordAtIndex s0.anchor.live 3).toNat
     (newestHeader words (Transfer.wordsRead t s0.mem) = none →
       exec .headerSlotsReadComplete s = .next (State.finish
         (State.haltJournal .header 0 (State.completed t s0)))) ∧
     (∀ h, newestHeader words (Transfer.wordsRead t s0.mem) = some h →
       exec .headerSlotsReadComplete s = .next (State.finish
         (if h.group = 0 then State.enterIdle
           { State.completed t s0 with
             journal.header := some h, journal.backward := .idle }
         else State.request
           { purpose := .walkRead
             addr := (wordAtIndex s0.anchor.live 2).toNat * 512 + 8
             body := .read (min 8 (words - 8)) }
           { State.completed t s0 with
             journal.header := some h, journal.backward := .walk 8 [] }))))

/-- WALK_READ_COMPLETE (R105 to R110): a record in the run moves the walk on, a closing record ends it
with a header rewrite when the walk end passes the high-water, and a failing record, or the end of
the area, ends it with the rollback of the images found, unless one names a forbidden block. That a
rollback of no images holds the next offset 12 is the model's choice (log entry 27). -/
def Obligations.WalkAdvances : Prop :=
  ∀ (t : Transfer) (p : Nat) (bs : List Nat) (h : Header) (s s0 : State),
    s.completes .walkRead t s0 → s0.journal.backward = .walk p bs →
    s0.journal.header = some h →
    let ws := Transfer.wordsRead t s0.mem
    let len := 512 * (wordAtIndex s0.anchor.live 3).toNat
    let base := (wordAtIndex s0.anchor.live 2).toNat * 512
    let c := State.completed t s0
    let idle : State := State.enterIdle { c with journal.backward := .idle }
    let undo (blocks : List Nat) : State :=
      match firstForbidden s0.anchor.live blocks with
      | some k => State.haltJournal .image (12 + 8 * k) c
      | none =>
        if blocks.length = 0 then State.request
          { purpose := .undoneWrite, addr := base + 12
            body := .write (bothLanes (undoneRecordWords h.group 0 .recovery)) }
          { c with
            journal.backward := .restoring
              { group := h.group, cause := .recovery, total := 0, next := 12, restored := 0 } }
        else State.request
          { purpose := .imageRead, addr := base + (12 + 8 * (blocks.length - 1))
            body := .read 8 }
          { c with
            journal.backward := .restoring
              { group := h.group, cause := .recovery, total := blocks.length,
                next := 12 + 8 * (blocks.length - 1), restored := 0 } }
    let on (q : Nat) (blocks : List Nat) : State :=
      if q = len then undo blocks
      else State.request
        { purpose := .walkRead, addr := base + q, body := .read (min 8 (len - q)) }
        { c with journal.backward := .walk q blocks }
    let closed : State :=
      if h.highWater < p + 4 then
        { c with
          journal.backward := .idle, journal.handed := some (.recoveryRewrite (p + 4)) }
      else idle
    exec .walkReadComplete s = .next (State.finish
      (match walkRecord len h.group p bs.length ws with
        | some .opened => on (p + 4) bs
        | some .image => on (p + 8) (bs ++ [imageRecordBlock ws])
        | some .commit => closed
        | some .undone => closed
        | none => if p = 8 then idle else undo bs))

/-- Recovery's header writes (R25, R108, R110, R111): both make the written slot the current header
and finish recovery in IDLE; the closing one raises RECOVERED first. They are begun with the walk
end, or the raised high-water. -/
def Obligations.RecoveryHeaders : Prop :=
  (∀ (h : Header) (walkEnd : Nat) (s : State), s.running = true → s.journal.forward = none →
    s.journal.handed = some (.recoveryRewrite walkEnd) → s.journal.header = some h →
    exec .forwardWorkStart s = .next (State.finish
      (State.requestHeader .recoveryRewrite h.group walkEnd
        { s with
          journal.handed := none
          journal.forward := some (.groupWork (.recoveryRewrite walkEnd) 0) }))) ∧
  (∀ (h : Header) (n : Nat) (s : State), s.running = true → s.journal.forward = none →
    s.journal.handed = some (.closeRecovery n) → s.journal.header = some h →
    exec .forwardWorkStart s = .next (State.finish
      (State.requestHeader .recoveryClose h.group (max h.highWater (16 + 8 * n))
        { s with
          journal.handed := none
          journal.forward := some (.groupWork (.closeRecovery n) 0) }))) ∧
  (∀ (t : Transfer) (h : Header) (s s0 : State), s.completes .recoveryRewrite t s0 →
    s0.journal.slotWriting = some h →
    exec .recoveryHeaderRewriteComplete s = .next (State.finish (State.enterIdle
      { State.completed t s0 with
        journal.header := some h
        journal.slotWriting := none
        journal.forward := none
        journal.backward := .idle }))) ∧
  (∀ (t : Transfer) (h : Header) (n k : Nat) (s s0 : State), s.completes .recoveryClose t s0 →
    s0.journal.slotWriting = some h →
    s0.journal.forward = some (.groupWork (.closeRecovery n) k) →
    exec .recoveryClosingHeaderComplete s = .next (State.finish (State.enterIdle
      { State.completed t s0 with
        journal.header := some h
        journal.slotWriting := none
        journal.forward := none
        journal.backward := .idle
        events.pendingSet := raiseIn (.recovered h.group n) s0.events.pendingSet })))

/-! ## Configuration and scans -/

/-- The store's memory work (R91 to R94): once the queue is quiet the new header slots are cleared if
a format is due, else the anchor write begins; its seven transfers write word 0 as 0000h first and
the mark last; after them the format step follows, or the switch.
The switch (R94): the staging copy becomes the live copy, the mask is set from it, ANCHOR_STORED
is raised, the time base starts when the store was taken in UNCONFIGURED, and IDLE is entered. -/
def Obligations.StoreProceeds : Prop :=
  ((∀ (j : ConfigJob) (s : State), s.running = true → s.group.state = .configuring →
     s.anchor.job = some j → j.store = true → j.stage = .waitingQuiet → s.quiet = true →
     exec .storeWorkStart s = .next (State.finish
       (if j.formats then State.request
         { purpose := .slotClear
           addr := (wordAtIndex s.anchor.staging 2).toNat * 512
           body := .write (List.replicate 8 (.both, 0)) }
         { s with anchor.job := some { j with stage := .clearingSlots } }
       else State.beginAnchorWrite j s))) ∧
   (∀ (t : Transfer) (j : ConfigJob) (s s0 : State), s.completes .slotClear t s0 →
     s0.anchor.job = some j →
     exec .headerSlotClearComplete s =
       .next (State.finish (State.beginAnchorWrite j (State.completed t s0)))) ∧
   (∀ (j : ConfigJob) (s : State), s.anchor.staging.length = 42 →
     ∃ staging : List Word,
       wordSum staging = 0x3E91#16 ∧ staging.length = 42 ∧ wordAtIndex staging 0 = 0x6A4B#16 ∧
       (∀ k, k < 42 → k ≠ 0 → k ≠ 9 →
         wordAtIndex staging k = wordAtIndex s.anchor.staging k) ∧
       State.beginAnchorWrite j s = State.request
         { purpose := .anchorWrite, addr := 0
           body := .write (bothLanes ((0 : Word) :: (staging.drop 1).take 7)) }
         { s with
           anchor.staging := staging
           anchor.job := some { j with stage := .writingAnchor 1 } }) ∧
   (∀ (t : Transfer) (j : ConfigJob) (k : Nat) (s s0 : State), s.completes .anchorWrite t s0 →
     s0.anchor.job = some j → j.stage = .writingAnchor k →
     (1 ≤ k ∧ k < 7 →
       exec .anchorWriteTransferComplete s = .next (State.finish (State.request
         (if k = 6 then
           { purpose := .anchorWrite, addr := 0, body := .write [(.both, 0x6A4B#16)] }
         else
           { purpose := .anchorWrite, addr := 8 * k
             body := .write (bothLanes ((s0.anchor.staging.drop (8 * k)).take 8)) })
         { State.completed t s0 with
           anchor.job := some { j with stage := .writingAnchor (k + 1) } }))) ∧
     (k = 7 →
       exec .anchorWriteTransferComplete s = .next (State.finish
         (if j.formats then
           { State.completed t s0 with
             anchor.job := some { j with stage := .formatting }
             journal.handed := some .format }
         else State.switchAnchor j (State.completed t s0)))))) ∧
  (∀ (j : ConfigJob) (s : State),
     State.switchAnchor j s = State.enterIdle
       { s with
         anchor := { isLive := true, live := s.anchor.staging, staging := s.anchor.staging,
                     job := none }
         events := { pendingSet := raiseIn (.anchorStored j.formats) s.events.pendingSet,
                     mask := (wordAtIndex s.anchor.staging 5).extractLsb' 0 11 }
         group := if j.fromUnconfigured then
             { s.group with
               timeRunning := true, clkCount := 0
               divisor := wordAtIndex s.anchor.staging 6 }
           else s.group })

/-- The format step (R46, R94, R97): it is taken once the queue is quiet, clears the area in eights,
then writes slot A with serial 1 and slot B with serial 2, both group 0 and high-water 8; when it
ends, the current header is slot B's, and a store switches while a FORMAT raises ANCHOR_STORED with
formatted yes and enters IDLE. -/
def Obligations.FormatProceeds : Prop :=
  (∀ (s : State), s.running = true → s.journal.forward = none →
    s.journal.handed = some .format → s.quiet = true →
    exec .forwardWorkStart s = .next (State.finish (State.requestFormat 0
      { s with
        journal.handed := none, journal.forward := some (.groupWork .format 0) }))) ∧
  (∀ (k : Nat) (s : State),
    let a := if (s.anchor.job.any (fun j => j.store)) = true then s.anchor.staging
             else s.anchor.live
    let area := 64 * (wordAtIndex a 3).toNat
    let base := (wordAtIndex a 2).toNat * 512
    State.requestFormat k s = State.request
      (if k < area then
        { purpose := .format, addr := base + 8 * k
          body := .write (List.replicate 8 (.both, 0)) }
      else if k = area then
        { purpose := .format, addr := base
          body := .write [(.both, 1), (.both, 0), (.both, 8), (.both, 0x3E88#16)] }
      else
        { purpose := .format, addr := base + 4
          body := .write [(.both, 2), (.both, 0), (.both, 8), (.both, 0x3E87#16)] })
      { s with journal.forward := some (.groupWork .format k) }) ∧
  (∀ (t : Transfer) (j : ConfigJob) (k : Nat) (s s0 : State), s.completes .format t s0 →
    s0.anchor.job = some j → s0.journal.forward = some (.groupWork .format k) →
    let a := if j.store then s0.anchor.staging else s0.anchor.live
    let done : State :=
      { State.completed t s0 with
        journal.forward := none
        journal.header := some { serial := 2, group := 0, highWater := 8, slot := .b } }
    exec .formatTransferComplete s = .next (State.finish
      (if k ≤ 64 * (wordAtIndex a 3).toNat then
        State.requestFormat (k + 1) (State.completed t s0)
      else if j.store then State.switchAnchor j done
      else State.enterIdle
        { done with
          anchor.job := none
          events.pendingSet := raiseIn (.anchorStored true) s0.events.pendingSet })))

/-- The periodic scan's region is the first entry that is FROZEN with its scan flag set, in circular
order after the last periodic region and ending with it, from entry 0 when there is none (R152).
SCAN_INTERVAL_EXPIRY (the table of R152) and DUE_PERIODIC_SCAN_START (R152).
SCAN_READ_COMPLETE (R150, R153, R155, R156): each word is added to the value rotated left by one;
with words left the next eight are read; a periodic scan that ends raises SCAN_MISMATCH unless the
value is the expected one, becomes the last periodic region and restarts the count; a scan on request
raises SCAN_DONE; what the other four fields hold after the scan is the model's choice (log entry 22); the words
of an abandoned scan are discarded, and a scan started meanwhile then asks for
its first read (log entry 20). -/
def Obligations.ScansRunAndEnd : Prop :=
  (∀ (a : List Word) (last : Option Nat),
     let eligible (i : Nat) : Prop :=
       regionAttr a i = .frozen ∧ (wordAtIndex a (12 + 4 * i)).getLsbD 15 = true
     let start := match last with
       | some i => i + 1
       | none => 0
     (nextPeriodic a last = none ↔ ∀ i, i < 8 → ¬ eligible i) ∧
     (∀ i, nextPeriodic a last = some i ↔
       ∃ k, k < 8 ∧ i = (start + k) % 8 ∧ eligible i ∧
         ∀ j, j < k → ¬ eligible ((start + j) % 8))) ∧
  ((∀ s : State, s.running = true → GroupState.scannerWorks s.group.state = true →
     (wordAtIndex s.anchor.live 8).toNat ≠ 0 →
     (wordAtIndex s.anchor.live 8).toNat ≤ s.scanner.count → s.scanner.due = false →
     s.scanner.scan ≠ .periodic →
     (nextPeriodic s.anchor.live s.scanner.last = none →
       exec .scanIntervalExpiry s = .next (State.finish { s with scanner.count := 0 })) ∧
     (∀ i, nextPeriodic s.anchor.live s.scanner.last = some i →
       (s.lines.pfail = false → s.scanner.scan = .none →
         exec .scanIntervalExpiry s = .next (State.finish (State.startScan .periodic i s))) ∧
       (s.lines.pfail = true ∨ s.scanner.scan ≠ .none →
         exec .scanIntervalExpiry s =
           .next (State.finish { s with scanner.due := true })))) ∧
   (∀ (i : Nat) (s : State), s.running = true →
     GroupState.scannerWorks s.group.state = true → s.scanner.due = true →
     s.scanner.scan = .none → nextPeriodic s.anchor.live s.scanner.last = some i →
     (s.lines.pfail = false →
       exec .duePeriodicScanStart s =
         .next (State.finish (State.startScan .periodic i { s with scanner.due := false }))) ∧
     (s.lines.pfail = true → exec .duePeriodicScanStart s = .next (State.finish s)))) ∧
  ((∀ (v w : Word), foldScan v w = (v <<< 1 ||| v >>> 15) + w) ∧
   (∀ (t : Transfer) (s s0 : State), s.completes .scanRead t s0 →
     s0.port.discard = false → s0.scanner.scan ≠ .none →
     let i := s0.scanner.region
     let value := (Transfer.wordsRead t s0.mem).foldl foldScan s0.scanner.value
     let expected := wordAtIndex s0.anchor.live (13 + 4 * i)
     let c : State :=
       { State.completed t s0 with
         scanner.value := value
         scanner.next := s0.scanner.next + 8
         scanner.remaining := s0.scanner.remaining - 8 }
     (s0.scanner.remaining - 8 ≠ 0 →
       exec .scanReadComplete s = .next (State.finish (State.request
         { purpose := .scanRead, addr := s0.scanner.next + 8, body := .read 8 } c))) ∧
     (s0.scanner.remaining - 8 = 0 → s0.scanner.scan = .periodic →
       exec .scanReadComplete s = .next (State.finish
         { c with
           scanner.scan := .none
           scanner.last := some i
           scanner.count := 0
           events.pendingSet :=
             if value = expected then s0.events.pendingSet
             else raiseIn (.scanMismatch i value) s0.events.pendingSet })) ∧
     (s0.scanner.remaining - 8 = 0 → s0.scanner.scan = .onRequest →
       exec .scanReadComplete s = .next (State.finish
         { c with
           scanner.scan := .none
           events.pendingSet := raiseIn
             (.scanDone i value
               (decide (regionAttr s0.anchor.live i = .frozen ∧ value = expected)))
             s0.events.pendingSet }))) ∧
   (∀ (t : Transfer) (s s0 : State), s.completes .scanRead t s0 → s0.port.discard = true →
     s0.scanner.scan = .none →
     exec .scanReadComplete s = .next (State.finish
       { State.completed t s0 with port.discard := false })) ∧
   (∀ (t : Transfer) (s s0 : State), s.completes .scanRead t s0 →
     s0.port.discard = true → s0.scanner.scan ≠ .none →
     exec .scanReadComplete s = .next (State.finish (State.request
       { purpose := .scanRead, addr := s0.scanner.next, body := .read 8 }
       { State.completed t s0 with port.discard := false }))))

/-! ## More invariants of every step -/

/-- The work in progress is one thread of the group state's own: a requester has one transfer at a
time, in flight or waiting, and only for what it is at (R140, R141); group work, the backward activity
and a store or format belong to the group state, and no two of them are under way at once (R37, R67,
R91, R103). -/
def Obligations.WorkSoundKept : Prop :=
  ∀ s t : State, s.workSound → step s = .next t → t.workSound

/-- Both anchor copies keep their 42 words (R86, R87). -/
def Obligations.AnchorCopiesKept : Prop :=
  ∀ s t : State, s.copiesWhole → step s = .next t → t.copiesWhole
end

