-- ==== Sys2Proof/Laws/State.lean ====
section
/-! SUPPORT. What the plain record updates among the shared operations leave unchanged: one lemma
per field and update, true by rfl. -/

namespace Sys2Proof.Machine

@[simp] theorem State.raise_lines (e : Event) (s : State) : (State.raise e s).lines = s.lines := rfl
@[simp] theorem State.raise_group (e : Event) (s : State) : (State.raise e s).group = s.group := rfl
@[simp] theorem State.raise_journal (e : Event) (s : State) : (State.raise e s).journal = s.journal := rfl
@[simp] theorem State.raise_queue (e : Event) (s : State) : (State.raise e s).queue = s.queue := rfl
@[simp] theorem State.raise_host (e : Event) (s : State) : (State.raise e s).host = s.host := rfl
@[simp] theorem State.raise_anchor (e : Event) (s : State) : (State.raise e s).anchor = s.anchor := rfl
@[simp] theorem State.raise_port (e : Event) (s : State) : (State.raise e s).port = s.port := rfl
@[simp] theorem State.raise_scanner (e : Event) (s : State) : (State.raise e s).scanner = s.scanner := rfl
@[simp] theorem State.raise_power (e : Event) (s : State) : (State.raise e s).power = s.power := rfl
@[simp] theorem State.raise_link (e : Event) (s : State) : (State.raise e s).link = s.link := rfl
@[simp] theorem State.raise_mem (e : Event) (s : State) : (State.raise e s).mem = s.mem := rfl
@[simp] theorem State.raise_freeCount (e : Event) (s : State) : (State.raise e s).freeCount = s.freeCount := rfl
@[simp] theorem State.raise_pending (e : Event) (s : State) : (State.raise e s).pending = s.pending := rfl
@[simp] theorem State.withdraw_lines (q : Requester) (s : State) : (State.withdraw q s).lines = s.lines := rfl
@[simp] theorem State.withdraw_group (q : Requester) (s : State) : (State.withdraw q s).group = s.group := rfl
@[simp] theorem State.withdraw_journal (q : Requester) (s : State) : (State.withdraw q s).journal = s.journal := rfl
@[simp] theorem State.withdraw_queue (q : Requester) (s : State) : (State.withdraw q s).queue = s.queue := rfl
@[simp] theorem State.withdraw_host (q : Requester) (s : State) : (State.withdraw q s).host = s.host := rfl
@[simp] theorem State.withdraw_anchor (q : Requester) (s : State) : (State.withdraw q s).anchor = s.anchor := rfl
@[simp] theorem State.withdraw_scanner (q : Requester) (s : State) : (State.withdraw q s).scanner = s.scanner := rfl
@[simp] theorem State.withdraw_power (q : Requester) (s : State) : (State.withdraw q s).power = s.power := rfl
@[simp] theorem State.withdraw_events (q : Requester) (s : State) : (State.withdraw q s).events = s.events := rfl
@[simp] theorem State.withdraw_link (q : Requester) (s : State) : (State.withdraw q s).link = s.link := rfl
@[simp] theorem State.withdraw_mem (q : Requester) (s : State) : (State.withdraw q s).mem = s.mem := rfl
@[simp] theorem State.withdraw_freeCount (q : Requester) (s : State) : (State.withdraw q s).freeCount = s.freeCount := rfl
@[simp] theorem State.withdraw_pending (q : Requester) (s : State) : (State.withdraw q s).pending = s.pending := rfl
@[simp] theorem State.markRelease_lines (s : State) : (State.markRelease s).lines = s.lines := rfl
@[simp] theorem State.markRelease_group (s : State) : (State.markRelease s).group = s.group := rfl
@[simp] theorem State.markRelease_journal (s : State) : (State.markRelease s).journal = s.journal := rfl
@[simp] theorem State.markRelease_queue (s : State) : (State.markRelease s).queue = s.queue := rfl
@[simp] theorem State.markRelease_answer (s : State) :
    (State.markRelease s).host.answer = s.host.answer := rfl
@[simp] theorem State.enter_answer (g : GroupState) (s : State) :
    (State.enter g s).host.answer = s.host.answer := rfl
@[simp] theorem State.markRelease_anchor (s : State) : (State.markRelease s).anchor = s.anchor := rfl
@[simp] theorem State.markRelease_port (s : State) : (State.markRelease s).port = s.port := rfl
@[simp] theorem State.markRelease_scanner (s : State) : (State.markRelease s).scanner = s.scanner := rfl
@[simp] theorem State.markRelease_power (s : State) : (State.markRelease s).power = s.power := rfl
@[simp] theorem State.markRelease_events (s : State) : (State.markRelease s).events = s.events := rfl
@[simp] theorem State.markRelease_link (s : State) : (State.markRelease s).link = s.link := rfl
@[simp] theorem State.markRelease_mem (s : State) : (State.markRelease s).mem = s.mem := rfl
@[simp] theorem State.markRelease_freeCount (s : State) : (State.markRelease s).freeCount = s.freeCount := rfl
@[simp] theorem State.markRelease_pending (s : State) : (State.markRelease s).pending = s.pending := rfl
@[simp] theorem State.enter_lines (g : GroupState) (s : State) : (State.enter g s).lines = s.lines := rfl
@[simp] theorem State.enter_journal (g : GroupState) (s : State) : (State.enter g s).journal = s.journal := rfl
@[simp] theorem State.enter_queue (g : GroupState) (s : State) : (State.enter g s).queue = s.queue := rfl
@[simp] theorem State.enter_anchor (g : GroupState) (s : State) : (State.enter g s).anchor = s.anchor := rfl
@[simp] theorem State.enter_port (g : GroupState) (s : State) : (State.enter g s).port = s.port := rfl
@[simp] theorem State.enter_scanner (g : GroupState) (s : State) : (State.enter g s).scanner = s.scanner := rfl
@[simp] theorem State.enter_power (g : GroupState) (s : State) : (State.enter g s).power = s.power := rfl
@[simp] theorem State.enter_events (g : GroupState) (s : State) : (State.enter g s).events = s.events := rfl
@[simp] theorem State.enter_link (g : GroupState) (s : State) : (State.enter g s).link = s.link := rfl
@[simp] theorem State.enter_mem (g : GroupState) (s : State) : (State.enter g s).mem = s.mem := rfl
@[simp] theorem State.enter_freeCount (g : GroupState) (s : State) : (State.enter g s).freeCount = s.freeCount := rfl
@[simp] theorem State.enter_pending (g : GroupState) (s : State) : (State.enter g s).pending = s.pending := rfl
@[simp] theorem State.enterOpening_lines (s : State) : (State.enterOpening s).lines = s.lines := rfl
@[simp] theorem State.enterOpening_queue (s : State) : (State.enterOpening s).queue = s.queue := rfl
@[simp] theorem State.enterOpening_anchor (s : State) : (State.enterOpening s).anchor = s.anchor := rfl
@[simp] theorem State.enterOpening_port (s : State) : (State.enterOpening s).port = s.port := rfl
@[simp] theorem State.enterOpening_scanner (s : State) : (State.enterOpening s).scanner = s.scanner := rfl
@[simp] theorem State.enterOpening_power (s : State) : (State.enterOpening s).power = s.power := rfl
@[simp] theorem State.enterOpening_events (s : State) : (State.enterOpening s).events = s.events := rfl
@[simp] theorem State.enterOpening_link (s : State) : (State.enterOpening s).link = s.link := rfl
@[simp] theorem State.enterOpening_mem (s : State) : (State.enterOpening s).mem = s.mem := rfl
@[simp] theorem State.enterOpening_freeCount (s : State) : (State.enterOpening s).freeCount = s.freeCount := rfl
@[simp] theorem State.enterOpening_pending (s : State) : (State.enterOpening s).pending = s.pending := rfl
@[simp] theorem State.enterCommitting_lines (s : State) : (State.enterCommitting s).lines = s.lines := rfl
@[simp] theorem State.enterCommitting_queue (s : State) : (State.enterCommitting s).queue = s.queue := rfl
@[simp] theorem State.enterCommitting_anchor (s : State) : (State.enterCommitting s).anchor = s.anchor := rfl
@[simp] theorem State.enterCommitting_port (s : State) : (State.enterCommitting s).port = s.port := rfl
@[simp] theorem State.enterCommitting_scanner (s : State) : (State.enterCommitting s).scanner = s.scanner := rfl
@[simp] theorem State.enterCommitting_power (s : State) : (State.enterCommitting s).power = s.power := rfl
@[simp] theorem State.enterCommitting_events (s : State) : (State.enterCommitting s).events = s.events := rfl
@[simp] theorem State.enterCommitting_link (s : State) : (State.enterCommitting s).link = s.link := rfl
@[simp] theorem State.enterCommitting_mem (s : State) : (State.enterCommitting s).mem = s.mem := rfl
@[simp] theorem State.enterCommitting_freeCount (s : State) : (State.enterCommitting s).freeCount = s.freeCount := rfl
@[simp] theorem State.enterCommitting_pending (s : State) : (State.enterCommitting s).pending = s.pending := rfl
@[simp] theorem State.headerWritten_lines (s : State) : (State.headerWritten s).lines = s.lines := rfl
@[simp] theorem State.headerWritten_group (s : State) : (State.headerWritten s).group = s.group := rfl
@[simp] theorem State.headerWritten_queue (s : State) : (State.headerWritten s).queue = s.queue := rfl
@[simp] theorem State.headerWritten_host (s : State) : (State.headerWritten s).host = s.host := rfl
@[simp] theorem State.headerWritten_anchor (s : State) : (State.headerWritten s).anchor = s.anchor := rfl
@[simp] theorem State.headerWritten_port (s : State) : (State.headerWritten s).port = s.port := rfl
@[simp] theorem State.headerWritten_scanner (s : State) : (State.headerWritten s).scanner = s.scanner := rfl
@[simp] theorem State.headerWritten_power (s : State) : (State.headerWritten s).power = s.power := rfl
@[simp] theorem State.headerWritten_events (s : State) : (State.headerWritten s).events = s.events := rfl
@[simp] theorem State.headerWritten_link (s : State) : (State.headerWritten s).link = s.link := rfl
@[simp] theorem State.headerWritten_mem (s : State) : (State.headerWritten s).mem = s.mem := rfl
@[simp] theorem State.headerWritten_freeCount (s : State) : (State.headerWritten s).freeCount = s.freeCount := rfl
@[simp] theorem State.headerWritten_pending (s : State) : (State.headerWritten s).pending = s.pending := rfl
@[simp] theorem State.startTimeBase_lines (s : State) : (State.startTimeBase s).lines = s.lines := rfl
@[simp] theorem State.startTimeBase_journal (s : State) : (State.startTimeBase s).journal = s.journal := rfl
@[simp] theorem State.startTimeBase_queue (s : State) : (State.startTimeBase s).queue = s.queue := rfl
@[simp] theorem State.startTimeBase_host (s : State) : (State.startTimeBase s).host = s.host := rfl
@[simp] theorem State.startTimeBase_anchor (s : State) : (State.startTimeBase s).anchor = s.anchor := rfl
@[simp] theorem State.startTimeBase_port (s : State) : (State.startTimeBase s).port = s.port := rfl
@[simp] theorem State.startTimeBase_scanner (s : State) : (State.startTimeBase s).scanner = s.scanner := rfl
@[simp] theorem State.startTimeBase_power (s : State) : (State.startTimeBase s).power = s.power := rfl
@[simp] theorem State.startTimeBase_events (s : State) : (State.startTimeBase s).events = s.events := rfl
@[simp] theorem State.startTimeBase_link (s : State) : (State.startTimeBase s).link = s.link := rfl
@[simp] theorem State.startTimeBase_mem (s : State) : (State.startTimeBase s).mem = s.mem := rfl
@[simp] theorem State.startTimeBase_freeCount (s : State) : (State.startTimeBase s).freeCount = s.freeCount := rfl
@[simp] theorem State.startTimeBase_pending (s : State) : (State.startTimeBase s).pending = s.pending := rfl
@[simp] theorem State.respond_lines (st : LinkStatus) (d : List Byte) (s : State) : (State.respond st d s).lines = s.lines := rfl
@[simp] theorem State.respond_group (st : LinkStatus) (d : List Byte) (s : State) : (State.respond st d s).group = s.group := rfl
@[simp] theorem State.respond_journal (st : LinkStatus) (d : List Byte) (s : State) : (State.respond st d s).journal = s.journal := rfl
@[simp] theorem State.respond_queue (st : LinkStatus) (d : List Byte) (s : State) : (State.respond st d s).queue = s.queue := rfl
@[simp] theorem State.respond_host (st : LinkStatus) (d : List Byte) (s : State) : (State.respond st d s).host = s.host := rfl
@[simp] theorem State.respond_anchor (st : LinkStatus) (d : List Byte) (s : State) : (State.respond st d s).anchor = s.anchor := rfl
@[simp] theorem State.respond_port (st : LinkStatus) (d : List Byte) (s : State) : (State.respond st d s).port = s.port := rfl
@[simp] theorem State.respond_scanner (st : LinkStatus) (d : List Byte) (s : State) : (State.respond st d s).scanner = s.scanner := rfl
@[simp] theorem State.respond_power (st : LinkStatus) (d : List Byte) (s : State) : (State.respond st d s).power = s.power := rfl
@[simp] theorem State.respond_events (st : LinkStatus) (d : List Byte) (s : State) : (State.respond st d s).events = s.events := rfl
@[simp] theorem State.respond_mem (st : LinkStatus) (d : List Byte) (s : State) : (State.respond st d s).mem = s.mem := rfl
@[simp] theorem State.respond_freeCount (st : LinkStatus) (d : List Byte) (s : State) : (State.respond st d s).freeCount = s.freeCount := rfl
@[simp] theorem State.respond_pending (st : LinkStatus) (d : List Byte) (s : State) : (State.respond st d s).pending = s.pending := rfl
@[simp] theorem State.respondAfterFiller_lines (st : LinkStatus) (d : List Byte) (s : State) : (State.respondAfterFiller st d s).lines = s.lines := rfl
@[simp] theorem State.respondAfterFiller_group (st : LinkStatus) (d : List Byte) (s : State) : (State.respondAfterFiller st d s).group = s.group := rfl
@[simp] theorem State.respondAfterFiller_journal (st : LinkStatus) (d : List Byte) (s : State) : (State.respondAfterFiller st d s).journal = s.journal := rfl
@[simp] theorem State.respondAfterFiller_queue (st : LinkStatus) (d : List Byte) (s : State) : (State.respondAfterFiller st d s).queue = s.queue := rfl
@[simp] theorem State.respondAfterFiller_host (st : LinkStatus) (d : List Byte) (s : State) : (State.respondAfterFiller st d s).host = s.host := rfl
@[simp] theorem State.respondAfterFiller_anchor (st : LinkStatus) (d : List Byte) (s : State) : (State.respondAfterFiller st d s).anchor = s.anchor := rfl
@[simp] theorem State.respondAfterFiller_port (st : LinkStatus) (d : List Byte) (s : State) : (State.respondAfterFiller st d s).port = s.port := rfl
@[simp] theorem State.respondAfterFiller_scanner (st : LinkStatus) (d : List Byte) (s : State) : (State.respondAfterFiller st d s).scanner = s.scanner := rfl
@[simp] theorem State.respondAfterFiller_power (st : LinkStatus) (d : List Byte) (s : State) : (State.respondAfterFiller st d s).power = s.power := rfl
@[simp] theorem State.respondAfterFiller_events (st : LinkStatus) (d : List Byte) (s : State) : (State.respondAfterFiller st d s).events = s.events := rfl
@[simp] theorem State.respondAfterFiller_mem (st : LinkStatus) (d : List Byte) (s : State) : (State.respondAfterFiller st d s).mem = s.mem := rfl
@[simp] theorem State.respondAfterFiller_pending (st : LinkStatus) (d : List Byte) (s : State) : (State.respondAfterFiller st d s).pending = s.pending := rfl
@[simp] theorem State.answer_lines (i : Instr) (st : LinkStatus) (d : List Byte) (s : State) : (State.answer i st d s).lines = s.lines := rfl
@[simp] theorem State.answer_group (i : Instr) (st : LinkStatus) (d : List Byte) (s : State) : (State.answer i st d s).group = s.group := rfl
@[simp] theorem State.answer_journal (i : Instr) (st : LinkStatus) (d : List Byte) (s : State) : (State.answer i st d s).journal = s.journal := rfl
@[simp] theorem State.answer_queue (i : Instr) (st : LinkStatus) (d : List Byte) (s : State) : (State.answer i st d s).queue = s.queue := rfl
@[simp] theorem State.answer_host (i : Instr) (st : LinkStatus) (d : List Byte) (s : State) : (State.answer i st d s).host = s.host := rfl
@[simp] theorem State.answer_anchor (i : Instr) (st : LinkStatus) (d : List Byte) (s : State) : (State.answer i st d s).anchor = s.anchor := rfl
@[simp] theorem State.answer_port (i : Instr) (st : LinkStatus) (d : List Byte) (s : State) : (State.answer i st d s).port = s.port := rfl
@[simp] theorem State.answer_scanner (i : Instr) (st : LinkStatus) (d : List Byte) (s : State) : (State.answer i st d s).scanner = s.scanner := rfl
@[simp] theorem State.answer_power (i : Instr) (st : LinkStatus) (d : List Byte) (s : State) : (State.answer i st d s).power = s.power := rfl
@[simp] theorem State.answer_events (i : Instr) (st : LinkStatus) (d : List Byte) (s : State) : (State.answer i st d s).events = s.events := rfl
@[simp] theorem State.answer_mem (i : Instr) (st : LinkStatus) (d : List Byte) (s : State) : (State.answer i st d s).mem = s.mem := rfl
@[simp] theorem State.answer_freeCount (i : Instr) (st : LinkStatus) (d : List Byte) (s : State) : (State.answer i st d s).freeCount = s.freeCount := rfl
@[simp] theorem State.answer_pending (i : Instr) (st : LinkStatus) (d : List Byte) (s : State) : (State.answer i st d s).pending = s.pending := rfl
@[simp] theorem State.answerInvalid_lines (i : Instr) (r : InvalidReason) (s : State) : (State.answerInvalid i r s).lines = s.lines := rfl
@[simp] theorem State.answerInvalid_group (i : Instr) (r : InvalidReason) (s : State) : (State.answerInvalid i r s).group = s.group := rfl
@[simp] theorem State.answerInvalid_journal (i : Instr) (r : InvalidReason) (s : State) : (State.answerInvalid i r s).journal = s.journal := rfl
@[simp] theorem State.answerInvalid_queue (i : Instr) (r : InvalidReason) (s : State) : (State.answerInvalid i r s).queue = s.queue := rfl
@[simp] theorem State.answerInvalid_host (i : Instr) (r : InvalidReason) (s : State) : (State.answerInvalid i r s).host = s.host := rfl
@[simp] theorem State.answerInvalid_anchor (i : Instr) (r : InvalidReason) (s : State) : (State.answerInvalid i r s).anchor = s.anchor := rfl
@[simp] theorem State.answerInvalid_port (i : Instr) (r : InvalidReason) (s : State) : (State.answerInvalid i r s).port = s.port := rfl
@[simp] theorem State.answerInvalid_scanner (i : Instr) (r : InvalidReason) (s : State) : (State.answerInvalid i r s).scanner = s.scanner := rfl
@[simp] theorem State.answerInvalid_power (i : Instr) (r : InvalidReason) (s : State) : (State.answerInvalid i r s).power = s.power := rfl
@[simp] theorem State.answerInvalid_events (i : Instr) (r : InvalidReason) (s : State) : (State.answerInvalid i r s).events = s.events := rfl
@[simp] theorem State.answerInvalid_mem (i : Instr) (r : InvalidReason) (s : State) : (State.answerInvalid i r s).mem = s.mem := rfl
@[simp] theorem State.answerInvalid_freeCount (i : Instr) (r : InvalidReason) (s : State) : (State.answerInvalid i r s).freeCount = s.freeCount := rfl
@[simp] theorem State.answerInvalid_pending (i : Instr) (r : InvalidReason) (s : State) : (State.answerInvalid i r s).pending = s.pending := rfl
@[simp] theorem State.completed_lines (t : Transfer) (s : State) : (State.completed t s).lines = s.lines := rfl
@[simp] theorem State.completed_group (t : Transfer) (s : State) : (State.completed t s).group = s.group := rfl
@[simp] theorem State.completed_journal (t : Transfer) (s : State) : (State.completed t s).journal = s.journal := rfl
@[simp] theorem State.completed_queue (t : Transfer) (s : State) : (State.completed t s).queue = s.queue := rfl
@[simp] theorem State.completed_host (t : Transfer) (s : State) : (State.completed t s).host = s.host := rfl
@[simp] theorem State.completed_anchor (t : Transfer) (s : State) : (State.completed t s).anchor = s.anchor := rfl
@[simp] theorem State.completed_scanner (t : Transfer) (s : State) : (State.completed t s).scanner = s.scanner := rfl
@[simp] theorem State.completed_power (t : Transfer) (s : State) : (State.completed t s).power = s.power := rfl
@[simp] theorem State.completed_events (t : Transfer) (s : State) : (State.completed t s).events = s.events := rfl
@[simp] theorem State.completed_link (t : Transfer) (s : State) : (State.completed t s).link = s.link := rfl
@[simp] theorem State.completed_freeCount (t : Transfer) (s : State) : (State.completed t s).freeCount = s.freeCount := rfl
@[simp] theorem State.completed_pending (t : Transfer) (s : State) : (State.completed t s).pending = s.pending := rfl
@[simp] theorem State.refuseAccess_lines (r : RefusalReason) (a : Access) (s : State) : (State.refuseAccess r a s).lines = s.lines := rfl
@[simp] theorem State.refuseAccess_mem (r : RefusalReason) (a : Access) (s : State) : (State.refuseAccess r a s).mem = s.mem := rfl
@[simp] theorem State.refuseAccess_pending (r : RefusalReason) (a : Access) (s : State) : (State.refuseAccess r a s).pending = s.pending := rfl
@[simp] theorem State.refuseAccess_queue (r : RefusalReason) (a : Access) (s : State) : (State.refuseAccess r a s).queue = s.queue := rfl
@[simp] theorem State.withdrawReservation_lines (a : Access) (p : Post) (s : State) : (State.withdrawReservation a p s).lines = s.lines := rfl
@[simp] theorem State.withdrawReservation_mem (a : Access) (p : Post) (s : State) : (State.withdrawReservation a p s).mem = s.mem := rfl
@[simp] theorem State.withdrawReservation_pending (a : Access) (p : Post) (s : State) : (State.withdrawReservation a p s).pending = s.pending := rfl
@[simp] theorem State.withdrawReservation_queue (a : Access) (p : Post) (s : State) : (State.withdrawReservation a p s).queue = s.queue := rfl
@[simp] theorem State.takeTick_lines (s : State) : (State.takeTick s).lines = s.lines := rfl
@[simp] theorem State.takeTick_mem (s : State) : (State.takeTick s).mem = s.mem := rfl
@[simp] theorem State.takeTick_pending (s : State) : (State.takeTick s).pending = s.pending := rfl
@[simp] theorem State.takeTick_queue (s : State) : (State.takeTick s).queue = s.queue := rfl
@[simp] theorem State.setPhase_lines (a : Access) (p : AccessPhase) (s : State) : (State.setPhase a p s).lines = s.lines := rfl
@[simp] theorem State.setPhase_mem (a : Access) (p : AccessPhase) (s : State) : (State.setPhase a p s).mem = s.mem := rfl
@[simp] theorem State.setPhase_pending (a : Access) (p : AccessPhase) (s : State) : (State.setPhase a p s).pending = s.pending := rfl
@[simp] theorem State.setPhase_queue (a : Access) (p : AccessPhase) (s : State) : (State.setPhase a p s).queue = s.queue := rfl
@[simp] theorem State.post_lines (a : Access) (p : Post) (s : State) : (State.post a p s).lines = s.lines := rfl
@[simp] theorem State.post_mem (a : Access) (p : Post) (s : State) : (State.post a p s).mem = s.mem := rfl
@[simp] theorem State.post_pending (a : Access) (p : Post) (s : State) : (State.post a p s).pending = s.pending := rfl
@[simp] theorem State.post_queue (a : Access) (p : Post) (s : State) : (State.post a p s).queue = s.queue := rfl
@[simp] theorem State.answerPhase_lines (a : Access) (x : Answer) (r : List Word) (s : State) : (State.answerPhase a x r s).lines = s.lines := rfl
@[simp] theorem State.answerPhase_mem (a : Access) (x : Answer) (r : List Word) (s : State) : (State.answerPhase a x r s).mem = s.mem := rfl
@[simp] theorem State.answerPhase_pending (a : Access) (x : Answer) (r : List Word) (s : State) : (State.answerPhase a x r s).pending = s.pending := rfl
@[simp] theorem State.answerPhase_queue (a : Access) (x : Answer) (r : List Word) (s : State) : (State.answerPhase a x r s).queue = s.queue := rfl
@[simp] theorem State.setStage_lines (j : ConfigJob) (g : JobStage) (s : State) : (State.setStage j g s).lines = s.lines := rfl
@[simp] theorem State.setStage_mem (j : ConfigJob) (g : JobStage) (s : State) : (State.setStage j g s).mem = s.mem := rfl
@[simp] theorem State.setStage_pending (j : ConfigJob) (g : JobStage) (s : State) : (State.setStage j g s).pending = s.pending := rfl
@[simp] theorem State.setStage_queue (j : ConfigJob) (g : JobStage) (s : State) : (State.setStage j g s).queue = s.queue := rfl
@[simp] theorem State.endRequestedScan_lines (s : State) : (State.endRequestedScan s).lines = s.lines := rfl
@[simp] theorem State.endRequestedScan_mem (s : State) : (State.endRequestedScan s).mem = s.mem := rfl
@[simp] theorem State.endRequestedScan_pending (s : State) : (State.endRequestedScan s).pending = s.pending := rfl
@[simp] theorem State.endRequestedScan_queue (s : State) : (State.endRequestedScan s).queue = s.queue := rfl

end Sys2Proof.Machine
end

