-- ==== Sys2Proof/Laws/Frames.lean ====
section
/-! SUPPORT. What the operations that decide something leave unchanged: one lemma per field and
operation. -/

namespace Sys2Proof.Machine

@[simp] theorem State.grant_frame (s : State) :
    (State.grant s).lines = s.lines ∧ (State.grant s).group = s.group ∧
    (State.grant s).journal = s.journal ∧ (State.grant s).queue = s.queue ∧
    (State.grant s).host = s.host ∧ (State.grant s).anchor = s.anchor ∧
    (State.grant s).scanner = s.scanner ∧ (State.grant s).power = s.power ∧
    (State.grant s).events = s.events ∧ (State.grant s).link = s.link ∧
    (State.grant s).mem = s.mem ∧ (State.grant s).freeCount = s.freeCount ∧
    (State.grant s).pending = s.pending := by
  unfold State.grant; (repeat' split) <;> simp

@[simp] theorem State.request_frame (t : Transfer) (s : State) :
    (State.request t s).lines = s.lines ∧ (State.request t s).group = s.group ∧
    (State.request t s).journal = s.journal ∧ (State.request t s).queue = s.queue ∧
    (State.request t s).host = s.host ∧ (State.request t s).anchor = s.anchor ∧
    (State.request t s).scanner = s.scanner ∧ (State.request t s).power = s.power ∧
    (State.request t s).events = s.events ∧ (State.request t s).link = s.link ∧
    (State.request t s).mem = s.mem ∧ (State.request t s).freeCount = s.freeCount ∧
    (State.request t s).pending = s.pending := by
  unfold State.request; (repeat' split) <;> simp

@[simp] theorem State.renewScanner_frame (s : State) :
    (State.renewScanner s).lines = s.lines ∧ (State.renewScanner s).group = s.group ∧
    (State.renewScanner s).journal = s.journal ∧ (State.renewScanner s).queue = s.queue ∧
    (State.renewScanner s).host = s.host ∧ (State.renewScanner s).anchor = s.anchor ∧
    (State.renewScanner s).port = s.port ∧ (State.renewScanner s).power = s.power ∧
    (State.renewScanner s).events = s.events ∧ (State.renewScanner s).link = s.link ∧
    (State.renewScanner s).mem = s.mem ∧ (State.renewScanner s).freeCount = s.freeCount ∧
    (State.renewScanner s).pending = s.pending := by
  unfold State.renewScanner; (repeat' split) <;> simp

@[simp] theorem State.enterIdle_frame (s : State) :
    (State.enterIdle s).lines = s.lines ∧ (State.enterIdle s).queue = s.queue ∧
    (State.enterIdle s).anchor = s.anchor ∧ (State.enterIdle s).port = s.port ∧
    (State.enterIdle s).power = s.power ∧ (State.enterIdle s).events = s.events ∧
    (State.enterIdle s).link = s.link ∧ (State.enterIdle s).mem = s.mem ∧
    (State.enterIdle s).freeCount = s.freeCount ∧ (State.enterIdle s).pending = s.pending := by
  unfold State.enterIdle; simp only; (repeat' split) <;> simp

@[simp] theorem State.requestScanRead_frame (s : State) :
    (State.requestScanRead s).lines = s.lines ∧ (State.requestScanRead s).group = s.group ∧
    (State.requestScanRead s).journal = s.journal ∧ (State.requestScanRead s).queue = s.queue ∧
    (State.requestScanRead s).host = s.host ∧ (State.requestScanRead s).anchor = s.anchor ∧
    (State.requestScanRead s).scanner = s.scanner ∧ (State.requestScanRead s).power = s.power ∧
    (State.requestScanRead s).events = s.events ∧ (State.requestScanRead s).link = s.link ∧
    (State.requestScanRead s).mem = s.mem ∧ (State.requestScanRead s).freeCount = s.freeCount ∧
    (State.requestScanRead s).pending = s.pending := by
  unfold State.requestScanRead; (repeat' split) <;> simp

@[simp] theorem State.startScan_frame (p : ScanKind) (i : Nat) (s : State) :
    (State.startScan p i s).lines = s.lines ∧ (State.startScan p i s).group = s.group ∧
    (State.startScan p i s).journal = s.journal ∧ (State.startScan p i s).queue = s.queue ∧
    (State.startScan p i s).host = s.host ∧ (State.startScan p i s).anchor = s.anchor ∧
    (State.startScan p i s).power = s.power ∧ (State.startScan p i s).events = s.events ∧
    (State.startScan p i s).link = s.link ∧ (State.startScan p i s).mem = s.mem ∧
    (State.startScan p i s).freeCount = s.freeCount ∧
    (State.startScan p i s).pending = s.pending := by
  unfold State.startScan; simp

@[simp] theorem State.abandonScan_frame (s : State) :
    (State.abandonScan s).lines = s.lines ∧ (State.abandonScan s).group = s.group ∧
    (State.abandonScan s).journal = s.journal ∧ (State.abandonScan s).queue = s.queue ∧
    (State.abandonScan s).host = s.host ∧ (State.abandonScan s).anchor = s.anchor ∧
    (State.abandonScan s).power = s.power ∧ (State.abandonScan s).events = s.events ∧
    (State.abandonScan s).link = s.link ∧ (State.abandonScan s).mem = s.mem ∧
    (State.abandonScan s).freeCount = s.freeCount ∧ (State.abandonScan s).pending = s.pending := by
  unfold State.abandonScan; (repeat' split) <;> simp

@[simp] theorem State.idleScanner_frame (s : State) :
    (State.idleScanner s).lines = s.lines ∧ (State.idleScanner s).group = s.group ∧
    (State.idleScanner s).journal = s.journal ∧ (State.idleScanner s).queue = s.queue ∧
    (State.idleScanner s).host = s.host ∧ (State.idleScanner s).anchor = s.anchor ∧
    (State.idleScanner s).power = s.power ∧ (State.idleScanner s).events = s.events ∧
    (State.idleScanner s).link = s.link ∧ (State.idleScanner s).mem = s.mem ∧
    (State.idleScanner s).freeCount = s.freeCount ∧ (State.idleScanner s).pending = s.pending := by
  unfold State.idleScanner; simp

@[simp] theorem State.startDueScan_frame (s : State) :
    (State.startDueScan s).lines = s.lines ∧ (State.startDueScan s).group = s.group ∧
    (State.startDueScan s).journal = s.journal ∧ (State.startDueScan s).queue = s.queue ∧
    (State.startDueScan s).host = s.host ∧ (State.startDueScan s).anchor = s.anchor ∧
    (State.startDueScan s).power = s.power ∧ (State.startDueScan s).events = s.events ∧
    (State.startDueScan s).link = s.link ∧ (State.startDueScan s).mem = s.mem ∧
    (State.startDueScan s).freeCount = s.freeCount ∧
    (State.startDueScan s).pending = s.pending := by
  unfold State.startDueScan; (repeat' split) <;> simp

@[simp] theorem State.abortForward_frame (s : State) :
    (State.abortForward s).lines = s.lines ∧ (State.abortForward s).group = s.group ∧
    (State.abortForward s).queue = s.queue ∧ (State.abortForward s).host = s.host ∧
    (State.abortForward s).anchor = s.anchor ∧ (State.abortForward s).scanner = s.scanner ∧
    (State.abortForward s).power = s.power ∧ (State.abortForward s).events = s.events ∧
    (State.abortForward s).link = s.link ∧ (State.abortForward s).mem = s.mem ∧
    (State.abortForward s).freeCount = s.freeCount ∧
    (State.abortForward s).pending = s.pending := by
  unfold State.abortForward; (repeat' split) <;> simp

@[simp] theorem State.takeAbort_frame (c : Cause) (s : State) :
    (State.takeAbort c s).lines = s.lines ∧ (State.takeAbort c s).anchor = s.anchor ∧
    (State.takeAbort c s).scanner = s.scanner ∧ (State.takeAbort c s).power = s.power ∧
    (State.takeAbort c s).events = s.events ∧ (State.takeAbort c s).link = s.link ∧
    (State.takeAbort c s).mem = s.mem ∧ (State.takeAbort c s).freeCount = s.freeCount ∧
    (State.takeAbort c s).pending = s.pending := by
  unfold State.takeAbort; simp

@[simp] theorem State.takeAgeTimeout_frame (s : State) :
    (State.takeAgeTimeout s).lines = s.lines ∧ (State.takeAgeTimeout s).anchor = s.anchor ∧
    (State.takeAgeTimeout s).scanner = s.scanner ∧ (State.takeAgeTimeout s).power = s.power ∧
    (State.takeAgeTimeout s).events = s.events ∧ (State.takeAgeTimeout s).link = s.link ∧
    (State.takeAgeTimeout s).mem = s.mem ∧ (State.takeAgeTimeout s).freeCount = s.freeCount ∧
    (State.takeAgeTimeout s).pending = s.pending := by
  unfold State.takeAgeTimeout; (repeat' split) <;> simp

@[simp] theorem State.settle_frame (s : State) :
    (State.settle s).lines = s.lines ∧ (State.settle s).anchor = s.anchor ∧
    (State.settle s).power = s.power ∧ (State.settle s).events = s.events ∧
    (State.settle s).link = s.link ∧ (State.settle s).mem = s.mem ∧
    (State.settle s).freeCount = s.freeCount ∧ (State.settle s).pending = s.pending := by
  unfold State.settle; simp

@[simp] theorem State.finish_frame (s : State) :
    (State.finish s).lines = s.lines ∧ (State.finish s).group = s.group ∧
    (State.finish s).journal = s.journal ∧ (State.finish s).queue = s.queue ∧
    (State.finish s).host = s.host ∧ (State.finish s).anchor = s.anchor ∧
    (State.finish s).port = s.port ∧ (State.finish s).scanner = s.scanner ∧
    (State.finish s).events = s.events ∧ (State.finish s).link = s.link ∧
    (State.finish s).mem = s.mem ∧ (State.finish s).freeCount = s.freeCount ∧
    (State.finish s).pending = s.pending := by
  unfold State.finish; (repeat' split) <;> simp

@[simp] theorem State.requestJournalWrite_frame (p : Purpose) (o : Nat) (ws : List Word) (s : State) :
    (State.requestJournalWrite p o ws s).lines = s.lines ∧
    (State.requestJournalWrite p o ws s).group = s.group ∧
    (State.requestJournalWrite p o ws s).journal = s.journal ∧
    (State.requestJournalWrite p o ws s).queue = s.queue ∧
    (State.requestJournalWrite p o ws s).host = s.host ∧
    (State.requestJournalWrite p o ws s).anchor = s.anchor ∧
    (State.requestJournalWrite p o ws s).scanner = s.scanner ∧
    (State.requestJournalWrite p o ws s).power = s.power ∧
    (State.requestJournalWrite p o ws s).events = s.events ∧
    (State.requestJournalWrite p o ws s).link = s.link ∧
    (State.requestJournalWrite p o ws s).mem = s.mem ∧
    (State.requestJournalWrite p o ws s).freeCount = s.freeCount ∧
    (State.requestJournalWrite p o ws s).pending = s.pending := by
  unfold State.requestJournalWrite; simp

@[simp] theorem State.requestJournalRead_frame (p : Purpose) (o n : Nat) (s : State) :
    (State.requestJournalRead p o n s).lines = s.lines ∧
    (State.requestJournalRead p o n s).group = s.group ∧
    (State.requestJournalRead p o n s).journal = s.journal ∧
    (State.requestJournalRead p o n s).queue = s.queue ∧
    (State.requestJournalRead p o n s).host = s.host ∧
    (State.requestJournalRead p o n s).anchor = s.anchor ∧
    (State.requestJournalRead p o n s).scanner = s.scanner ∧
    (State.requestJournalRead p o n s).power = s.power ∧
    (State.requestJournalRead p o n s).events = s.events ∧
    (State.requestJournalRead p o n s).link = s.link ∧
    (State.requestJournalRead p o n s).mem = s.mem ∧
    (State.requestJournalRead p o n s).freeCount = s.freeCount ∧
    (State.requestJournalRead p o n s).pending = s.pending := by
  unfold State.requestJournalRead; simp

@[simp] theorem State.requestHeader_frame (p : Purpose) (g hw : Nat) (s : State) :
    (State.requestHeader p g hw s).lines = s.lines ∧
    (State.requestHeader p g hw s).group = s.group ∧
    (State.requestHeader p g hw s).queue = s.queue ∧ (State.requestHeader p g hw s).host = s.host ∧
    (State.requestHeader p g hw s).anchor = s.anchor ∧
    (State.requestHeader p g hw s).scanner = s.scanner ∧
    (State.requestHeader p g hw s).power = s.power ∧
    (State.requestHeader p g hw s).events = s.events ∧
    (State.requestHeader p g hw s).link = s.link ∧ (State.requestHeader p g hw s).mem = s.mem ∧
    (State.requestHeader p g hw s).freeCount = s.freeCount ∧
    (State.requestHeader p g hw s).pending = s.pending := by
  unfold State.requestHeader; (repeat' split) <;> simp

@[simp] theorem State.haltJournal_frame (c : UnreadableCause) (o : Nat) (s : State) :
    (State.haltJournal c o s).lines = s.lines ∧ (State.haltJournal c o s).queue = s.queue ∧
    (State.haltJournal c o s).anchor = s.anchor ∧ (State.haltJournal c o s).power = s.power ∧
    (State.haltJournal c o s).link = s.link ∧ (State.haltJournal c o s).mem = s.mem ∧
    (State.haltJournal c o s).freeCount = s.freeCount ∧
    (State.haltJournal c o s).pending = s.pending := by
  unfold State.haltJournal; simp

@[simp] theorem State.requestUndone_frame (r : Rollback) (s : State) :
    (State.requestUndone r s).lines = s.lines ∧ (State.requestUndone r s).group = s.group ∧
    (State.requestUndone r s).queue = s.queue ∧ (State.requestUndone r s).host = s.host ∧
    (State.requestUndone r s).anchor = s.anchor ∧ (State.requestUndone r s).scanner = s.scanner ∧
    (State.requestUndone r s).power = s.power ∧ (State.requestUndone r s).events = s.events ∧
    (State.requestUndone r s).link = s.link ∧ (State.requestUndone r s).mem = s.mem ∧
    (State.requestUndone r s).freeCount = s.freeCount ∧
    (State.requestUndone r s).pending = s.pending := by
  unfold State.requestUndone; simp

@[simp] theorem State.startRollback_frame (g : Nat) (c : Cause) (w : Nat) (s : State) :
    (State.startRollback g c w s).lines = s.lines ∧ (State.startRollback g c w s).group = s.group ∧
    (State.startRollback g c w s).queue = s.queue ∧ (State.startRollback g c w s).host = s.host ∧
    (State.startRollback g c w s).anchor = s.anchor ∧
    (State.startRollback g c w s).scanner = s.scanner ∧
    (State.startRollback g c w s).power = s.power ∧
    (State.startRollback g c w s).events = s.events ∧ (State.startRollback g c w s).link = s.link ∧
    (State.startRollback g c w s).mem = s.mem ∧
    (State.startRollback g c w s).freeCount = s.freeCount ∧
    (State.startRollback g c w s).pending = s.pending := by
  unfold State.startRollback; (repeat' split) <;> simp

@[simp] theorem State.finishRecovery_frame (s : State) :
    (State.finishRecovery s).lines = s.lines ∧ (State.finishRecovery s).queue = s.queue ∧
    (State.finishRecovery s).anchor = s.anchor ∧ (State.finishRecovery s).port = s.port ∧
    (State.finishRecovery s).power = s.power ∧ (State.finishRecovery s).events = s.events ∧
    (State.finishRecovery s).link = s.link ∧ (State.finishRecovery s).mem = s.mem ∧
    (State.finishRecovery s).freeCount = s.freeCount ∧
    (State.finishRecovery s).pending = s.pending := by
  unfold State.finishRecovery; simp

@[simp] theorem State.settleReadStatus_frame (st : LinkStatus) (s : State) :
    (State.settleReadStatus st s).lines = s.lines ∧ (State.settleReadStatus st s).group = s.group ∧
    (State.settleReadStatus st s).journal = s.journal ∧
    (State.settleReadStatus st s).queue = s.queue ∧ (State.settleReadStatus st s).host = s.host ∧
    (State.settleReadStatus st s).anchor = s.anchor ∧ (State.settleReadStatus st s).port = s.port ∧
    (State.settleReadStatus st s).scanner = s.scanner ∧
    (State.settleReadStatus st s).power = s.power ∧
    (State.settleReadStatus st s).events = s.events ∧ (State.settleReadStatus st s).mem = s.mem ∧
    (State.settleReadStatus st s).freeCount = s.freeCount ∧
    (State.settleReadStatus st s).pending = s.pending := by
  unfold State.settleReadStatus; (repeat' split) <;> simp

@[simp] theorem State.endLinkRead_frame (st : LinkStatus) (d : List Byte) (s : State) :
    (State.endLinkRead st d s).lines = s.lines ∧ (State.endLinkRead st d s).group = s.group ∧
    (State.endLinkRead st d s).journal = s.journal ∧ (State.endLinkRead st d s).queue = s.queue ∧
    (State.endLinkRead st d s).host = s.host ∧ (State.endLinkRead st d s).anchor = s.anchor ∧
    (State.endLinkRead st d s).port = s.port ∧ (State.endLinkRead st d s).scanner = s.scanner ∧
    (State.endLinkRead st d s).power = s.power ∧ (State.endLinkRead st d s).events = s.events ∧
    (State.endLinkRead st d s).mem = s.mem ∧ (State.endLinkRead st d s).pending = s.pending := by
  unfold State.endLinkRead; (repeat' split) <;> simp

@[simp] theorem State.powerFailAccess_frame (s : State) :
    (State.powerFailAccess s).lines = s.lines ∧ (State.powerFailAccess s).mem = s.mem ∧
    (State.powerFailAccess s).pending = s.pending ∧ (State.powerFailAccess s).queue = s.queue := by
  unfold State.powerFailAccess; (repeat' split) <;> simp

@[simp] theorem State.powerFailScan_frame (s : State) :
    (State.powerFailScan s).lines = s.lines ∧ (State.powerFailScan s).mem = s.mem ∧
    (State.powerFailScan s).pending = s.pending ∧ (State.powerFailScan s).queue = s.queue := by
  unfold State.powerFailScan; simp

@[simp] theorem State.powerFailLink_frame (s : State) :
    (State.powerFailLink s).lines = s.lines ∧ (State.powerFailLink s).mem = s.mem ∧
    (State.powerFailLink s).pending = s.pending ∧ (State.powerFailLink s).queue = s.queue := by
  unfold State.powerFailLink; (repeat' split) <;> simp

@[simp] theorem State.reserve_frame (a : Access) (s : State) :
    (State.reserve a s).lines = s.lines ∧ (State.reserve a s).mem = s.mem ∧
    (State.reserve a s).pending = s.pending ∧ (State.reserve a s).queue = s.queue := by
  unfold State.reserve; simp only; (repeat' split) <;> simp

@[simp] theorem State.requestHostRead_frame (a : Access) (s : State) :
    (State.requestHostRead a s).lines = s.lines ∧ (State.requestHostRead a s).mem = s.mem ∧
    (State.requestHostRead a s).pending = s.pending ∧
    (State.requestHostRead a s).queue = s.queue := by
  unfold State.requestHostRead; simp

@[simp] theorem State.classify_frame (a : Access) (s : State) :
    (State.classify a s).lines = s.lines ∧ (State.classify a s).mem = s.mem ∧
    (State.classify a s).pending = s.pending ∧ (State.classify a s).queue = s.queue := by
  unfold State.classify; (repeat' split) <;> simp

@[simp] theorem State.formingPhase_frame (a : Access) (p : Post) (d : Word) (s : State) :
    (State.formingPhase a p d s).lines = s.lines ∧ (State.formingPhase a p d s).mem = s.mem ∧
    (State.formingPhase a p d s).pending = s.pending := by
  unfold State.formingPhase; (repeat' split) <;> simp

@[simp] theorem State.earlyPhase_frame (a : Access) (s : State) :
    (State.earlyPhase a s).lines = s.lines ∧ (State.earlyPhase a s).mem = s.mem ∧
    (State.earlyPhase a s).pending = s.pending ∧ (State.earlyPhase a s).queue = s.queue := by
  unfold State.earlyPhase; simp only; (repeat' split) <;> simp

@[simp] theorem State.takeDataPhase_frame (d : Word) (s : State) :
    (State.takeDataPhase d s).lines = s.lines ∧ (State.takeDataPhase d s).mem = s.mem ∧
    (State.takeDataPhase d s).pending = s.pending := by
  unfold State.takeDataPhase; (repeat' split) <;> simp

@[simp] theorem State.requestDataWrite_frame (e : Entry) (s : State) :
    (State.requestDataWrite e s).lines = s.lines ∧ (State.requestDataWrite e s).mem = s.mem ∧
    (State.requestDataWrite e s).pending = s.pending ∧
    (State.requestDataWrite e s).queue = s.queue := by
  unfold State.requestDataWrite; simp

@[simp] theorem State.beginRetire_frame (e : Entry) (s : State) :
    (State.beginRetire e s).lines = s.lines ∧ (State.beginRetire e s).mem = s.mem ∧
    (State.beginRetire e s).pending = s.pending ∧ (State.beginRetire e s).queue = s.queue := by
  unfold State.beginRetire; (repeat' split) <;> simp

@[simp] theorem State.takeHead_frame (s : State) :
    (State.takeHead s).lines = s.lines ∧ (State.takeHead s).mem = s.mem ∧
    (State.takeHead s).pending = s.pending ∧ (State.takeHead s).queue = s.queue := by
  unfold State.takeHead; (repeat' split) <;> simp

@[simp] theorem State.wipeStep_frame (n : Nat) (s : State) :
    (State.wipeStep n s).lines = s.lines ∧ (State.wipeStep n s).mem = s.mem ∧
    (State.wipeStep n s).pending = s.pending ∧ (State.wipeStep n s).queue = s.queue := by
  unfold State.wipeStep; simp only; (repeat' split) <;> simp

@[simp] theorem State.requestFormat_frame (k : Nat) (s : State) :
    (State.requestFormat k s).lines = s.lines ∧ (State.requestFormat k s).mem = s.mem ∧
    (State.requestFormat k s).pending = s.pending ∧ (State.requestFormat k s).queue = s.queue := by
  unfold State.requestFormat; simp

@[simp] theorem State.beginGroupWork_frame (w : GroupWork) (s : State) :
    (State.beginGroupWork w s).lines = s.lines ∧ (State.beginGroupWork w s).mem = s.mem ∧
    (State.beginGroupWork w s).pending = s.pending ∧
    (State.beginGroupWork w s).queue = s.queue := by
  unfold State.beginGroupWork; (repeat' split) <;> simp

@[simp] theorem State.requestOpeningHeader_frame (s : State) :
    (State.requestOpeningHeader s).lines = s.lines ∧ (State.requestOpeningHeader s).mem = s.mem ∧
    (State.requestOpeningHeader s).pending = s.pending ∧
    (State.requestOpeningHeader s).queue = s.queue := by
  unfold State.requestOpeningHeader; simp

@[simp] theorem State.leaveOpening_frame (s : State) :
    (State.leaveOpening s).lines = s.lines ∧ (State.leaveOpening s).mem = s.mem ∧
    (State.leaveOpening s).pending = s.pending ∧ (State.leaveOpening s).queue = s.queue := by
  unfold State.leaveOpening; (repeat' split) <;> simp

@[simp] theorem State.leaveCommitting_frame (s : State) :
    (State.leaveCommitting s).lines = s.lines ∧ (State.leaveCommitting s).mem = s.mem ∧
    (State.leaveCommitting s).pending = s.pending ∧ (State.leaveCommitting s).queue = s.queue := by
  unfold State.leaveCommitting; (repeat' split) <;> simp

@[simp] theorem State.leaveRollback_frame (s : State) :
    (State.leaveRollback s).lines = s.lines ∧ (State.leaveRollback s).mem = s.mem ∧
    (State.leaveRollback s).pending = s.pending ∧ (State.leaveRollback s).queue = s.queue := by
  unfold State.leaveRollback; (repeat' split) <;> simp

@[simp] theorem State.endAnchorLoad_frame (s : State) :
    (State.endAnchorLoad s).lines = s.lines ∧ (State.endAnchorLoad s).mem = s.mem ∧
    (State.endAnchorLoad s).pending = s.pending ∧ (State.endAnchorLoad s).queue = s.queue ∧
    (State.endAnchorLoad s).host.answer = s.host.answer ∧
    (State.endAnchorLoad s).power = s.power ∧
    (State.endAnchorLoad s).freeCount = s.freeCount ∧
    (State.endAnchorLoad s).link = s.link ∧ (State.endAnchorLoad s).scanner = s.scanner := by
  unfold State.endAnchorLoad; (repeat' split) <;> simp

@[simp] theorem State.loadReads_frame (n : Nat) (s : State) :
    (State.loadReads n s).lines = s.lines ∧ (State.loadReads n s).mem = s.mem ∧
    (State.loadReads n s).pending = s.pending ∧ (State.loadReads n s).queue = s.queue ∧
    (State.loadReads n s).host.answer = s.host.answer ∧
    (State.loadReads n s).power = s.power ∧ (State.loadReads n s).freeCount = s.freeCount ∧
    (State.loadReads n s).link = s.link ∧ (State.loadReads n s).scanner = s.scanner := by
  induction n generalizing s with
  | zero => simp [State.loadReads]
  | succ n ih => unfold State.loadReads; simp only; (repeat' split) <;> simp [ih]

@[simp] theorem State.requestWalk_frame (p : Nat) (bs : List Nat) (s : State) :
    (State.requestWalk p bs s).lines = s.lines ∧ (State.requestWalk p bs s).mem = s.mem ∧
    (State.requestWalk p bs s).pending = s.pending ∧
    (State.requestWalk p bs s).queue = s.queue := by
  unfold State.requestWalk; simp

@[simp] theorem State.runClosed_frame (w : Nat) (s : State) :
    (State.runClosed w s).lines = s.lines ∧ (State.runClosed w s).mem = s.mem ∧
    (State.runClosed w s).pending = s.pending ∧ (State.runClosed w s).queue = s.queue := by
  unfold State.runClosed; (repeat' split) <;> simp

@[simp] theorem State.runOpen_frame (bs : List Nat) (s : State) :
    (State.runOpen bs s).lines = s.lines ∧ (State.runOpen bs s).mem = s.mem ∧
    (State.runOpen bs s).pending = s.pending ∧ (State.runOpen bs s).queue = s.queue := by
  unfold State.runOpen; (repeat' split) <;> simp

@[simp] theorem State.walkStops_frame (p : Nat) (bs : List Nat) (s : State) :
    (State.walkStops p bs s).lines = s.lines ∧ (State.walkStops p bs s).mem = s.mem ∧
    (State.walkStops p bs s).pending = s.pending ∧ (State.walkStops p bs s).queue = s.queue := by
  unfold State.walkStops; (repeat' split) <;> simp

@[simp] theorem State.walkOn_frame (p : Nat) (bs : List Nat) (s : State) :
    (State.walkOn p bs s).lines = s.lines ∧ (State.walkOn p bs s).mem = s.mem ∧
    (State.walkOn p bs s).pending = s.pending ∧ (State.walkOn p bs s).queue = s.queue := by
  unfold State.walkOn; (repeat' split) <;> simp

@[simp] theorem State.enterConfiguring_frame (j : ConfigJob) (s : State) :
    (State.enterConfiguring j s).lines = s.lines ∧ (State.enterConfiguring j s).mem = s.mem ∧
    (State.enterConfiguring j s).pending = s.pending ∧
    (State.enterConfiguring j s).queue = s.queue := by
  unfold State.enterConfiguring; simp

@[simp] theorem State.takeStoreAnchor_frame (s : State) :
    (State.takeStoreAnchor s).lines = s.lines ∧ (State.takeStoreAnchor s).mem = s.mem ∧
    (State.takeStoreAnchor s).pending = s.pending ∧ (State.takeStoreAnchor s).queue = s.queue := by
  unfold State.takeStoreAnchor; (repeat' split) <;> simp

@[simp] theorem State.takeFormat_frame (s : State) :
    (State.takeFormat s).lines = s.lines ∧ (State.takeFormat s).mem = s.mem ∧
    (State.takeFormat s).pending = s.pending ∧ (State.takeFormat s).queue = s.queue := by
  unfold State.takeFormat; (repeat' split) <;> simp

@[simp] theorem State.requestAnchorWrite_frame (j : ConfigJob) (k : Nat) (s : State) :
    (State.requestAnchorWrite j k s).lines = s.lines ∧
    (State.requestAnchorWrite j k s).mem = s.mem ∧
    (State.requestAnchorWrite j k s).pending = s.pending ∧
    (State.requestAnchorWrite j k s).queue = s.queue := by
  unfold State.requestAnchorWrite; simp

@[simp] theorem State.beginAnchorWrite_frame (j : ConfigJob) (s : State) :
    (State.beginAnchorWrite j s).lines = s.lines ∧ (State.beginAnchorWrite j s).mem = s.mem ∧
    (State.beginAnchorWrite j s).pending = s.pending ∧
    (State.beginAnchorWrite j s).queue = s.queue := by
  unfold State.beginAnchorWrite; simp

@[simp] theorem State.requestSlotClear_frame (j : ConfigJob) (s : State) :
    (State.requestSlotClear j s).lines = s.lines ∧ (State.requestSlotClear j s).mem = s.mem ∧
    (State.requestSlotClear j s).pending = s.pending ∧
    (State.requestSlotClear j s).queue = s.queue := by
  unfold State.requestSlotClear; simp

@[simp] theorem State.switchTimeBase_frame (j : ConfigJob) (s : State) :
    (State.switchTimeBase j s).lines = s.lines ∧ (State.switchTimeBase j s).mem = s.mem ∧
    (State.switchTimeBase j s).pending = s.pending ∧
    (State.switchTimeBase j s).queue = s.queue := by
  unfold State.switchTimeBase; (repeat' split) <;> simp

@[simp] theorem State.switchAnchor_frame (j : ConfigJob) (s : State) :
    (State.switchAnchor j s).lines = s.lines ∧ (State.switchAnchor j s).mem = s.mem ∧
    (State.switchAnchor j s).pending = s.pending ∧ (State.switchAnchor j s).queue = s.queue := by
  unfold State.switchAnchor; simp

@[simp] theorem State.endFormat_frame (s : State) :
    (State.endFormat s).lines = s.lines ∧ (State.endFormat s).mem = s.mem ∧
    (State.endFormat s).pending = s.pending ∧ (State.endFormat s).queue = s.queue := by
  unfold State.endFormat; (repeat' split) <;> simp

@[simp] theorem State.takeScanRegion_frame (i : Byte) (s : State) :
    (State.takeScanRegion i s).lines = s.lines ∧ (State.takeScanRegion i s).mem = s.mem ∧
    (State.takeScanRegion i s).pending = s.pending ∧
    (State.takeScanRegion i s).queue = s.queue := by
  unfold State.takeScanRegion; (repeat' split) <;> simp

@[simp] theorem State.takeExpiry_frame (s : State) :
    (State.takeExpiry s).lines = s.lines ∧ (State.takeExpiry s).mem = s.mem ∧
    (State.takeExpiry s).pending = s.pending ∧ (State.takeExpiry s).queue = s.queue := by
  unfold State.takeExpiry; (repeat' split) <;> simp

@[simp] theorem State.endPeriodicScan_frame (s : State) :
    (State.endPeriodicScan s).lines = s.lines ∧ (State.endPeriodicScan s).mem = s.mem ∧
    (State.endPeriodicScan s).pending = s.pending ∧
    (State.endPeriodicScan s).queue = s.queue := by
  unfold State.endPeriodicScan; (repeat' split) <;> simp

@[simp] theorem State.foldScanRead_frame (ws : List Word) (s : State) :
    (State.foldScanRead ws s).lines = s.lines ∧ (State.foldScanRead ws s).mem = s.mem ∧
    (State.foldScanRead ws s).pending = s.pending ∧ (State.foldScanRead ws s).queue = s.queue := by
  unfold State.foldScanRead; simp only; (repeat' split) <;> simp

@[simp] theorem State.takeNextEvent_frame (s : State) :
    (State.takeNextEvent s).lines = s.lines ∧ (State.takeNextEvent s).mem = s.mem ∧
    (State.takeNextEvent s).pending = s.pending ∧ (State.takeNextEvent s).queue = s.queue := by
  unfold State.takeNextEvent; (repeat' split) <;> simp

@[simp] theorem State.takeAbortGroup_frame (s : State) :
    (State.takeAbortGroup s).lines = s.lines ∧ (State.takeAbortGroup s).mem = s.mem ∧
    (State.takeAbortGroup s).pending = s.pending := by
  unfold State.takeAbortGroup; (repeat' split) <;> simp

@[simp] theorem State.takeSetMask_frame (m : Word) (s : State) :
    (State.takeSetMask m s).lines = s.lines ∧ (State.takeSetMask m s).mem = s.mem ∧
    (State.takeSetMask m s).pending = s.pending ∧ (State.takeSetMask m s).queue = s.queue := by
  unfold State.takeSetMask; (repeat' split) <;> simp

@[simp] theorem State.takeCopyRead_frame (i : Instr) (c : List Word) (o n : Byte) (s : State) :
    (State.takeCopyRead i c o n s).lines = s.lines ∧ (State.takeCopyRead i c o n s).mem = s.mem ∧
    (State.takeCopyRead i c o n s).pending = s.pending ∧
    (State.takeCopyRead i c o n s).queue = s.queue := by
  unfold State.takeCopyRead; (repeat' split) <;> simp

@[simp] theorem State.takeStage_frame (o n : Byte) (ws : List Word) (s : State) :
    (State.takeStage o n ws s).lines = s.lines ∧ (State.takeStage o n ws s).mem = s.mem ∧
    (State.takeStage o n ws s).pending = s.pending ∧
    (State.takeStage o n ws s).queue = s.queue := by
  unfold State.takeStage; (repeat' split) <;> simp

@[simp] theorem State.takeCopyLive_frame (s : State) :
    (State.takeCopyLive s).lines = s.lines ∧ (State.takeCopyLive s).mem = s.mem ∧
    (State.takeCopyLive s).pending = s.pending ∧ (State.takeCopyLive s).queue = s.queue := by
  unfold State.takeCopyLive; (repeat' split) <;> simp

@[simp] theorem State.takeReadJournal_frame (o : Word) (n : Byte) (s : State) :
    (State.takeReadJournal o n s).lines = s.lines ∧ (State.takeReadJournal o n s).mem = s.mem ∧
    (State.takeReadJournal o n s).pending = s.pending ∧
    (State.takeReadJournal o n s).queue = s.queue := by
  unfold State.takeReadJournal; (repeat' split) <;> simp

@[simp] theorem State.takeRise_frame (s : State) :
    (State.takeRise s).lines = s.lines ∧ (State.takeRise s).mem = s.mem ∧
    (State.takeRise s).pending = s.pending ∧ (State.takeRise s).queue = s.queue := by
  unfold State.takeRise; (repeat' split) <;> simp

@[simp] theorem State.takeFall_frame (s : State) :
    (State.takeFall s).lines = s.lines ∧ (State.takeFall s).mem = s.mem ∧
    (State.takeFall s).pending = s.pending ∧ (State.takeFall s).queue = s.queue := by
  unfold State.takeFall; (repeat' split) <;> simp

end Sys2Proof.Machine
end

