-- ==== Sys2Proof/Laws/Memory.lean ====
section
/-! SUPPORT. The laws of the static memory: a byte reads as written, a write leaves every other byte,
every write keeps the canonical form, and what words and transfers do follows from these. -/

namespace Sys2Proof.Machine

/-! ## One byte -/

/-- A byte written at the head of a canonical memory's addresses, or past them, is not listed
twice: the addresses after a write are those before it, with at most the written one added. -/
theorem Memory.put_mem {m : Memory} {a : Nat} {b : Byte} {c : Host.Cell}
    (h : c ∈ Memory.put m a b) : c = (a, b) ∧ b ≠ Config.freshByte ∨ c ∈ m := by
  induction m with
  | nil => simp only [Memory.put] at h; split at h <;> simp_all
  | cons x rest ih =>
    obtain ⟨k, d⟩ := x
    simp only [Memory.put] at h
    split at h
    · split at h <;> simp_all
    · split at h
      · split at h <;> simp_all
        tauto
      · rcases List.mem_cons.mp h with h | h
        · simp [h]
        · rcases ih h with ⟨rfl, hb⟩ | h
          · exact .inl ⟨rfl, hb⟩
          · exact .inr (.tail _ h)

theorem Memory.put_wf {m : Memory} (a : Nat) (b : Byte) (h : m.wf) : (Memory.put m a b).wf := by
  refine ⟨?_, fun c hc => ?_⟩
  · induction m with
    | nil => simp only [Memory.put]; split <;> simp
    | cons x rest ih =>
      obtain ⟨k, d⟩ := x
      obtain ⟨hp, hv⟩ := h
      obtain ⟨hk, hrest⟩ := List.pairwise_cons.mp hp
      simp only [Memory.put]
      split
      · split
        · exact hp
        · refine List.pairwise_cons.mpr ⟨?_, hp⟩
          intro y hy
          rcases List.mem_cons.mp hy with rfl | hy
          · assumption
          · have := hk y hy; simp only at *; omega
      · split
        · split
          · exact hrest
          · exact List.pairwise_cons.mpr ⟨fun y hy => by have := hk y hy; simp only at *; omega, hrest⟩
        · refine List.pairwise_cons.mpr ⟨?_, ih ⟨hrest, fun c hc => hv c (.tail _ hc)⟩⟩
          intro y hy
          rcases Memory.put_mem hy with ⟨rfl, -⟩ | hy
          · simp only; omega
          · exact hk y hy
  · rcases Memory.put_mem hc with ⟨rfl, hb⟩ | hc
    · exact hb
    · exact h.2 c hc

/-- An address below every listed one reads as fresh. -/
theorem Memory.read_below {m : Memory} {a : Nat} (h : ∀ c ∈ m, a < c.1) :
    Memory.read m a = Config.freshByte := by
  induction m with
  | nil => rfl
  | cons x rest ih =>
    have := h x (.head _)
    rw [Memory.read, if_neg (by omega)]
    exact ih fun c hc => h c (.tail _ hc)

theorem Memory.read_put {m : Memory} (h : m.wf) (a : Nat) (b : Byte) (c : Nat) :
    Memory.read (Memory.put m a b) c = if c = a then b else Memory.read m c := by
  induction m with
  | nil =>
    simp only [Memory.put]
    by_cases hc : c = a
    · subst hc
      split <;> simp_all [Memory.read]
    · split <;> simp [Memory.read, Ne.symm hc]
  | cons x rest ih =>
    obtain ⟨k, d⟩ := x
    obtain ⟨hp, hv⟩ := h
    obtain ⟨hk, hrest⟩ := List.pairwise_cons.mp hp
    have ih := ih ⟨hrest, fun c hc => hv c (.tail _ hc)⟩
    simp only [Memory.put]
    split
    · split
      · subst b
        by_cases hc : c = a
        · rw [if_pos hc]
          refine Memory.read_below fun y hy => ?_
          rcases List.mem_cons.mp hy with rfl | hy
          · simpa [hc] using ‹a < k›
          · have := hk y hy; simp only at *; omega
        · rw [if_neg hc]
      · by_cases hc : c = a
        · simp [Memory.read, hc]
        · simp [Memory.read, hc, Ne.symm hc]
    · split
      · subst a
        split
        · subst b
          by_cases hc : c = k
          · rw [if_pos hc, hc]
            exact Memory.read_below fun y hy => hk y hy
          · simp [Memory.read, hc, Ne.symm hc]
        · by_cases hc : c = k
          · simp [Memory.read, hc]
          · simp [Memory.read, hc, Ne.symm hc]
      · by_cases hc : k = c
        · simp [Memory.read, hc]
          omega
        · simp [Memory.read, hc, ih]

theorem Memory.read_put_same {m : Memory} (h : m.wf) (a : Nat) (b : Byte) :
    Memory.read (Memory.put m a b) a = b := by simp [Memory.read_put h]

theorem Memory.read_put_other {m : Memory} (h : m.wf) {a c : Nat} (b : Byte) (hc : c ≠ a) :
    Memory.read (Memory.put m a b) c = Memory.read m c := by simp [Memory.read_put h, hc]

/-! ## Words -/

theorem Memory.putWord_wf {m : Memory} (k : Nat) (l : LaneSet) (w : Word) (h : m.wf) :
    (Memory.putWord m k l w).wf := by
  cases l
  · exact h
  · exact Memory.put_wf _ _ h
  · exact Memory.put_wf _ _ h
  · exact Memory.put_wf _ _ (Memory.put_wf _ _ h)

/-- Every byte after one word is written in its lanes (R38, R140). -/
theorem Memory.read_putWord {m : Memory} (h : m.wf) (k : Nat) (l : LaneSet) (w : Word) (a : Nat) :
    Memory.read (Memory.putWord m k l w) a =
      if a = 2 * k ∧ laneLow l = true then w.extractLsb' 0 8
      else if a = 2 * k + 1 ∧ laneHigh l = true then w.extractLsb' 8 8
      else Memory.read m a := by
  have hl := Memory.put_wf (2 * k) (w.extractLsb' 0 8) h
  cases l <;> simp [Memory.putWord, laneLow, laneHigh, Memory.read_put h, Memory.read_put hl]
  split <;> split <;> first | rfl | omega

theorem Memory.read_putWord_other {m : Memory} (h : m.wf) (k : Nat) (l : LaneSet) (w : Word)
    {a : Nat} (ha : a < 2 * k ∨ 2 * k + 2 ≤ a) :
    Memory.read (Memory.putWord m k l w) a = Memory.read m a := by
  rw [Memory.read_putWord h, if_neg (by omega), if_neg (by omega)]

theorem Memory.putWords_wf {m : Memory} (k : Nat) (ws : List (LaneSet × Word)) (h : m.wf) :
    (Memory.putWords m k ws).wf := by
  induction ws generalizing m k with
  | nil => exact h
  | cons x rest ih => exact ih _ (Memory.putWord_wf _ _ _ h)

theorem Memory.putWordsCut_wf {m : Memory} (k done : Nat) (torn : Word)
    (ws : List (LaneSet × Word)) (h : m.wf) : (Memory.putWordsCut m k done torn ws).wf := by
  induction ws generalizing m k done with
  | nil => cases done <;> exact h
  | cons x rest ih =>
    cases done with
    | zero =>
      simp only [Memory.putWordsCut]
      split
      · exact h
      · exact Memory.putWord_wf _ _ _ h
    | succ n => exact ih _ _ (Memory.putWord_wf _ _ _ h)

/-- A write of words changes no byte outside them. -/
theorem Memory.read_putWords_outside {m : Memory} (h : m.wf) (k : Nat)
    (ws : List (LaneSet × Word)) {a : Nat} (ha : a < 2 * k ∨ 2 * (k + ws.length) ≤ a) :
    Memory.read (Memory.putWords m k ws) a = Memory.read m a := by
  induction ws generalizing m k with
  | nil => rfl
  | cons x rest ih =>
    rw [List.length_cons] at ha
    rw [Memory.putWords, ih (Memory.putWord_wf _ _ _ h) (k + 1) (by omega)]
    exact Memory.read_putWord_other h _ _ _ (by omega)

/-- A cut write changes no byte outside the words of the whole write. -/
theorem Memory.read_putWordsCut_outside {m : Memory} (h : m.wf) (k done : Nat) (torn : Word)
    (ws : List (LaneSet × Word)) {a : Nat} (ha : a < 2 * k ∨ 2 * (k + ws.length) ≤ a) :
    Memory.read (Memory.putWordsCut m k done torn ws) a = Memory.read m a := by
  induction ws generalizing m k done with
  | nil => cases done <;> rfl
  | cons x rest ih =>
    rw [List.length_cons] at ha
    cases done with
    | zero =>
      simp only [Memory.putWordsCut]
      split
      · rfl
      · exact Memory.read_putWord_other h _ _ _ (by omega)
    | succ n =>
      rw [Memory.putWordsCut, ih (Memory.putWord_wf _ _ _ h) (k + 1) n (by omega)]
      exact Memory.read_putWord_other h _ _ _ (by omega)

@[simp] theorem Memory.words_length (m : Memory) (k n : Nat) :
    (Memory.words m k n).length = n := by
  induction n generalizing k with
  | zero => rfl
  | succ n ih => simp [Memory.words, ih]

/-! ## Transfers -/

theorem Transfer.memoryAfter_wf {m : Memory} (t : Transfer) (h : m.wf) :
    (Transfer.memoryAfter t m).wf := by
  unfold Transfer.memoryAfter
  split
  · exact h
  · exact Memory.putWords_wf _ _ h

theorem Transfer.memoryCut_wf {m : Memory} (t : Transfer) (done : Nat) (torn : Word) (h : m.wf) :
    (Transfer.memoryCut t done torn m).wf := by
  unfold Transfer.memoryCut
  split
  · exact h
  · exact Memory.putWordsCut_wf _ _ _ _ h

/-- The memory that lists nothing, as after reset, is canonical. -/
theorem Memory.nil_wf : Memory.wf [] := ⟨.nil, nofun⟩

theorem State.reset_mem_wf : State.reset.mem.wf := Memory.nil_wf

end Sys2Proof.Machine
end

