-- ==== Sys2Proof/Laws/Ops.lean ====
section
/-! SUPPORT. What the shared operations and the step can do, said once: every command gives a next
state, what a request and a grant leave in the port, what raising an event leaves in the pending set,
and how a completion goes on. -/

namespace Sys2Proof.Machine

/-- No command stops: there is no fault, and every command gives a next state. -/
theorem exec_next (c : Instr) (s : State) : ∃ t, exec c s = .next t := by
  cases c
  case grpRise => simp only [exec, execGrpRise]; (repeat' split) <;> exact ⟨_, rfl⟩
  case grpFall => simp only [exec, execGrpFall]; (repeat' split) <;> exact ⟨_, rfl⟩
  case lselAssertion => simp only [exec, execLselAssertion]; (repeat' split) <;> exact ⟨_, rfl⟩
  case lselDeassertion => simp only [exec, execLselDeassertion]; (repeat' split) <;> exact ⟨_, rfl⟩
  all_goals exact ⟨_, rfl⟩

/-- What a step gives: the front command's effect on the state with the queue's rest, or the close
of the moment. -/
theorem step_eq (s : State) :
    step s = match s.pending with
      | c :: rest => exec c { s with pending := rest }
      | [] => State.idleStep s := by
  unfold step
  split <;> simp_all

theorem step_next (s : State) : ∃ t, step s = .next t := by
  rw [step_eq]
  split
  · exact exec_next _ _
  · exact ⟨_, rfl⟩

theorem State.outside_eq_next {f : State → State} {s t : State} :
    State.outside f s = .next t ↔
      t = if s.running then State.finish (f (State.settle s)) else s := by
  rw [State.outside, Host.Outcome.next.injEq, eq_comm]

theorem State.within_eq_next {f : State → State} {s t : State} :
    State.within f s = .next t ↔ t = if s.running then State.finish (f s) else s := by
  rw [State.within, Host.Outcome.next.injEq, eq_comm]

theorem State.settle_running (s : State) : (State.settle s).running = s.running := by
  simp [State.running]

/-- A completion: nothing, or the owner goes on after the transfer in flight. -/
theorem State.complete_cases (p : Purpose) (after : Transfer → List Word → State → State)
    (s : State) :
    (∃ t, s.port.inFlight = some t ∧ t.purpose = p ∧
      State.complete p after s = after t (Transfer.wordsRead t s.mem)
        { s with port.inFlight := none, mem := Transfer.memoryAfter t s.mem }) ∨
    ((∀ t, s.port.inFlight = some t → t.purpose ≠ p) ∧ State.complete p after s = s) := by
  unfold State.complete
  split
  · split
    · exact .inl ⟨_, ‹_›, ‹_›, rfl⟩
    · exact .inr ⟨by simp_all, rfl⟩
  · exact .inr ⟨by simp_all, rfl⟩

/-- A condition SAFE after the finish was SAFE with no memory work pending. -/
theorem State.finish_cases (s : State) :
    (s.power = .safe ∧ s.workPending = true ∧ State.finish s = { s with power := .draining }) ∨
    ((s.power = .safe → s.workPending = false) ∧ State.finish s = s) := by
  unfold State.finish
  split <;> simp_all

/-! ## The pending set -/

/-- An entry after a raise stood before with another kind, is a new one, or is the combined one. -/
theorem mem_raiseIn {e : Event} {l : List PendingEvent} {q : PendingEvent}
    (h : q ∈ raiseIn e l) :
    q ∈ l ∨ q = { event := e, repeats := 0 } ∨
      ∃ p ∈ l, Event.priority e = Event.priority p.event ∧
        q = { event := Event.combine p.event e, repeats := min 255 (p.repeats + 1) } := by
  induction l with
  | nil => simp_all [raiseIn]
  | cons p rest ih =>
    simp only [raiseIn] at h
    split at h
    · simp only [List.mem_cons] at h ⊢
      tauto
    · split at h
      · rcases List.mem_cons.mp h with rfl | h
        · exact .inr (.inr ⟨p, .head _, ‹_›, rfl⟩)
        · exact .inl (.tail _ h)
      · rcases List.mem_cons.mp h with rfl | h
        · exact .inl (.head _)
        · rcases ih h with h | h | ⟨x, hx, h⟩
          · exact .inl (.tail _ h)
          · exact .inr (.inl h)
          · exact .inr (.inr ⟨x, .tail _ hx, h⟩)

/-- A combined entry keeps its kind. -/
@[simp] theorem Event.priority_combine (a b : Event) (h : Event.priority b = Event.priority a) :
    Event.priority (Event.combine a b) = Event.priority a := by
  cases a <;> cases b <;> simp_all [Event.combine, Event.priority]

/-! ## The waiting requests -/

@[simp] theorem Requests.get_put_same (r : Requests) (q : Requester) (t : Option Transfer) :
    Requests.get (Requests.put r q t) q = t := by cases q <;> rfl

theorem Requests.get_put_other (r : Requests) {q q' : Requester} (t : Option Transfer)
    (h : q' ≠ q) : Requests.get (Requests.put r q t) q' = Requests.get r q' := by
  cases q <;> cases q' <;> simp_all [Requests.get, Requests.put]

/-- A rollback is due exactly while the backward activity holds one not yet started (R67). -/
theorem State.rollbackDue_iff (s : State) :
    s.rollbackDue = true ↔ ∃ g cause, s.journal.backward = .rollbackDue g cause := by
  unfold State.rollbackDue
  split <;> simp_all

/-- Where a request goes: into flight on a free port with no rollback due, else among the waiting
ones. -/
theorem State.request_cases (t : Transfer) (s : State) :
    (s.port.inFlight = none ∧ s.rollbackDue = false ∧
      State.request t s = { s with port.inFlight := some t, port.discard := false }) ∨
    State.request t s =
      { s with
        port.requests := Requests.put s.port.requests (Purpose.requester t.purpose) (some t) } := by
  unfold State.request
  split
  · exact .inl ⟨by simp_all [State.portClosed], by simp_all [State.portClosed], rfl⟩
  · exact .inr rfl

/-- What a grant does: nothing, or one requester's waiting request goes into flight. -/
theorem State.grant_cases (s : State) :
    State.grant s = s ∨
    ∃ q, s.port.inFlight = none ∧ s.rollbackDue = false ∧ s.nextGrant = some q ∧
      State.grant s =
        { s with
          port.inFlight := Requests.get s.port.requests q
          port.discard := false
          port.requests := Requests.put s.port.requests q none } := by
  unfold State.grant
  split
  · exact .inl rfl
  · split
    · exact .inl rfl
    · exact .inr ⟨_, by simp_all [State.portClosed], by simp_all [State.portClosed], ‹_›, rfl⟩

/-- While a rollback is due nothing is granted (R70). -/
theorem State.grant_rollbackDue {s : State} (h : s.rollbackDue = true) : State.grant s = s := by
  simp [State.grant, State.portClosed, h]

/-! ## The anchor copies -/

@[simp] theorem fillCopy_length (copy : List Word) (addr : Nat) (ws : List Word) :
    (fillCopy copy addr ws).length = 42 := by simp [fillCopy]

/-- Filling in the mark and the check word changes no length. -/
@[simp] theorem completedAnchor_length (a : List Word) : (completedAnchor a).length = a.length := by
  simp [completedAnchor]

/-- Words given within a copy change no length. -/
theorem replaceWords_length {copy ws : List Word} {offset : Nat}
    (h : offset + ws.length ≤ copy.length) :
    (replaceWords copy offset ws).length = copy.length := by
  simp [replaceWords]; omega

/-! ## Bits of link frames -/

/-- The bits of a byte carry that byte. -/
theorem bytesOfBits_byteBits (b : Byte) (rest : List Bool) :
    bytesOfBits (byteBits b ++ rest) = b :: bytesOfBits rest := by
  have h : ∀ b : Byte, byteOfBits (b.getLsbD 7) (b.getLsbD 6) (b.getLsbD 5) (b.getLsbD 4)
      (b.getLsbD 3) (b.getLsbD 2) (b.getLsbD 1) (b.getLsbD 0) = b := by decide +kernel
  simp only [byteBits, List.cons_append, List.nil_append, bytesOfBits, h]

/-- Fewer than eight bits carry no byte. -/
theorem bytesOfBits_cut {cut : List Bool} (h : cut.length < 8) : bytesOfBits cut = [] := by
  unfold bytesOfBits
  split
  · simp only [List.length_cons] at h; omega
  · rfl

end Sys2Proof.Machine
end

