-- ==== Sys2Proof/Tests/Slice0.lean ====
section
/-! SUPPORT. Tests: the operand checks refuse ill-formed commands, link frames written out from the
description are read as they should be, single steps whose results the description gives, and for
every obligation with hypotheses a state and operands that meet them. -/

namespace Sys2Proof.Tests

open Sys2Proof.Machine

-- One theorem at a time: elaborating them side by side asks for more threads than a module gets.
set_option Elab.async false

/-! ## Operand checks (R127, R165, R166, R168, R180) -/

theorem test_wf_no_words : Instr.wf (.hostAddressPhase ⟨0, false, 0, [], false⟩) = false := by
  decide
theorem test_wf_five_words : Instr.wf (.hostAddressPhase ⟨0, false, 5, [], false⟩) = false := by
  decide
theorem test_wf_lane_sets_missing :
    Instr.wf (.hostAddressPhase ⟨0, true, 2, [.both], false⟩) = false := by decide
theorem test_wf_stage_words_missing : Instr.wf (.stage 0 2 [1]) = false := by decide
theorem test_wf_stage_words_at_count_nine : Instr.wf (.stage 0 9 [1]) = false := by decide
theorem test_wf_known_code : Instr.wf (.unknownCommand 0x0C) = false := by decide
theorem test_wf_good_check : Instr.wf (.badCheckFrame [0x01, 0x59]) = false := by decide
theorem test_wf_short_part : Instr.wf (.badCheckFrame [0x04, 0x05]) = false := by decide
theorem test_wf_cut_after_check :
    Instr.wf (.lselDeassertion (byteBits 0x01 ++ byteBits 0x59)) = false := by decide
theorem test_wf_cut_unknown : Instr.wf (.lselDeassertion (byteBits 0x0D)) = false := by decide
theorem test_wf_cut_stage :
    Instr.wf (.lselDeassertion ([0x07, 0x00, 0x01, 0x00].flatMap byteBits ++ [true])) = true := by
  decide

/-! ## Frames and stored words -/

/-- The worked STAGE frame of the chapter "Management link". -/
theorem test_decode_stage :
    decodePart [0x07, 0x06, 0x02, 0x00, 0x0F, 0x01, 0xF4, 0x47] =
      some (.stage 6 2 [0x000F, 0x01F4]) := by decide
/-- The worked READ_JOURNAL frame of the same chapter. -/
theorem test_encode_read_journal :
    encodePart (.readJournal 0 4) = [0x0B, 0x00, 0x00, 0x04, 0x4B] := by decide
theorem test_decode_abort : decodePart [0x03, 0x57] = some .abortGroup := by decide
theorem test_decode_scan_region : decodePart [0x0C, 0x07, 0x47] = some (.scanRegion 7) := by
  decide
/-- STATUS bit by bit, 01h then 59h, most significant bit first (R164, R165). -/
theorem test_decode_status_bits :
    decodeBits [false, false, false, false, false, false, false, true,
      false, true, false, true, true, false, false, true] = some .status := by decide
theorem test_decode_zero_byte : decodePart [0x00] = some (.unknownCommand 0) := by decide
/-- "The first word of group 42's UNDONE record … is therefore 402Ah. That of its OPEN record is
102Ah" (R178). -/
theorem test_record_heads :
    recordHead .undone 42 = 0x402A#16 ∧ recordHead .opened 42 = 0x102A#16 := by decide
theorem test_table_word : decodeTableWord 16 0x1234 = none := rfl
theorem test_fetch_word :
    State.withFetchWord State.reset 8 1 = State.reset := rfl

/-! ## Sample states -/

/-- A valid anchor: top 100, journal at granule 2 of length 1, default PASS, age limit 5, scan
interval 3, region 0 JOURNAL on granule 10, region 1 FROZEN with its scan flag on granule 20. -/
def anchor : List Word :=
  completedAnchor
    ([0, 100, 2, 1, 1, 0x5FF, 1, 5, 3, 0] ++ [10, 10, 2, 0] ++ [20, 20, 0x8004, 0x1234] ++
      List.replicate 24 0)

/-- A bridge in IDLE with that anchor, group 30 closed. -/
def idle : State :=
  { State.reset with
    group := { GroupController.reset with state := .idle, timeRunning := true, divisor := 1 }
    anchor := { isLive := true, live := anchor, staging := anchor, job := none }
    journal := { Journal.reset with
                 header := some { serial := 5, group := 30, highWater := 64, slot := .a } }
    port := MemoryPort.reset }

/-- The same bridge in another group state. -/
def inState (g : GroupState) : State := { idle with group.state := g }

/-- A frame whose command part is awaited. -/
def framed (s : State) : State := { s with lines.lsel := true, link.frame := .awaiting }

/-- With a transfer in flight. -/
def flying (p : Purpose) (body : TransferBody) (s : State) : State :=
  { s with port.inFlight := some { purpose := p, addr := 1024, body := body } }

/-- With an access on the host bus: a write of one word to block 1280, in region 0. -/
def access (p : AccessPhase) : Access :=
  { addr := 10240, write := true, lanes := [.both], phase := p, answered := 0, received := [] }

def carrying (p : AccessPhase) (s : State) : State := { s with host.access := some (access p) }

/-- A group entry that owes an image, and a plain one. -/
def groupEntry : Entry :=
  { block := 1280, first := 0, words := [(.both, 0xABCD)], tag := .group 30 true }

def plainEntry : Entry := { block := 500, first := 3, words := [(.low, 0xABCD)], tag := .plain }

def queued (es : List Entry) (s : State) : State := { s with queue := es }

def groupPost : Post := { tag := .group 30 true, claimed := true }

def plainPost : Post := { tag := .plain, claimed := false }

/-- The current header of `idle`, and the header that follows it. -/
def header : Header := { serial := 5, group := 30, highWater := 64, slot := .a }

def nextHeader : Header := { serial := 6, group := 31, highWater := 64, slot := .b }

/-- With the forward activity at work, and a header write in progress. -/
def working (w : ForwardWork) (s : State) : State :=
  { s with journal.forward := some w, journal.slotWriting := some nextHeader }

/-- With group work handed over. -/
def handed (w : GroupWork) (s : State) : State := { s with journal.handed := some w }

/-- With the backward activity at work. -/
def backward (b : Backward) (s : State) : State := { s with journal.backward := b }

def rollback : Rollback := { group := 30, cause := .abortCmd, total := 2, next := 20, restored := 0 }

/-- With a scan of region 1 in progress. -/
def scanning (kind : ScanKind) (left : Nat) (s : State) : State :=
  { s with scanner := { s.scanner with
                        scan := kind, region := 1, next := 10240, remaining := left } }

/-- Under RST, and without power. -/
def underReset : State := { State.reset with lines.rst := true, port := MemoryPort.reset }

def unpowered : State := { State.reset with lines.powered := false, port := MemoryPort.reset }

theorem test_anchor_valid : anchorFault anchor = none := by decide +kernel

/-! ## Single steps -/

/-- The next state of a step. -/
def after (r : Host.Outcome State Fault Refusal) : State :=
  match r with
  | .next t => t
  | _ => State.reset

/-- A rise in IDLE enters OPENING (R4); its opening header takes serial 6 and group 31 to slot B,
journal offset 4 of granule 2 (R26, R43). -/
theorem test_rise_opens : (after (exec .grpRise idle)).group.state = .opening := by decide
theorem test_opening_header :
    ((after (exec .forwardWorkStart (handed .opening idle))).port.inFlight.map
      (fun t => (t.addr, t.body))) =
      some (1028, .write (bothLanes [6, 31, 64, 0x3E2C])) := by decide
/-- A fall in OPENING is remembered (R5). -/
theorem test_fall_in_opening :
    (after (exec .grpFall { inState .opening with lines.grp := true })).group.closePending =
      true := by decide
/-- An abort answered in COMMITTING: TOO_LATE, 05h and the check byte 55h (R14, R167). -/
theorem test_abort_too_late :
    (after (exec .abortGroup (framed (inState .committing)))).link.response = [0x05, 0x55] := by
  decide
/-- STATUS of the idle bridge: state 04h, group 30, capacity 62, last header kept (R171, R179). -/
theorem test_status_idle :
    (after (exec .status (framed idle))).link.response =
      [0x01, 0x04, 0, 30, 0, 0, 0, 0, 0, 62, 0, 0, 0, 0, 0, 0, 0, 0, 0xF9] := by decide
/-- A write to a FROZEN region is refused (R131): address 5000h is in granule 20. -/
theorem test_frozen_write :
    (after (exec (.hostAddressPhase ⟨0x5000, true, 1, [.both], false⟩) idle)).events.pendingSet =
      [{ event := .accessRefused 0x5000 true .frozen, repeats := 0 }] := by decide
/-- "A write of two words at host address 040106h … is refused" (R129). -/
theorem test_bad_burst :
    (after (exec (.hostAddressPhase ⟨0x040106, true, 2, [.both, .both], false⟩)
      idle)).events.pendingSet =
      [{ event := .accessRefused 0x040106 true .badBurst, repeats := 0 }] := by decide
/-- The first IMAGE record of a group goes to offset 12: word 1024 + 12 (R29, R39). -/
theorem test_image_record :
    ((after (exec .blockReadComplete (working (.retire groupEntry false)
      (flying .blockRead (.read 4) (inState .groupOpen))))).port.inFlight.map
        (fun t => (t.addr, t.body))) =
      some (1036, .write (bothLanes [0x201E, 0, 0x0500, 0, 0, 0, 0, 0x1973])) := by decide
/-- A data write stores in its lane only, the low byte at the even address (R38, R140). -/
theorem test_data_write_lane :
    (after (exec .dataWriteComplete (flying .dataWrite (.write [(.low, 0xABCD)])
      (queued [plainEntry] idle)))).mem = [(2048, 0xCD)] := by decide
/-- From the abort on a scan that starts waits for the rollback, and the rollback's record read is the
transfer granted (R67, R70). -/
theorem test_rollback_first :
    let aborted := after (exec .abortGroup (framed { inState .groupOpen with journal.written := 1 }))
    let asked := after (exec (.scanRegion 1) (framed aborted))
    let begun := after (exec .backwardActivityStart asked)
    asked.port.inFlight = none ∧ asked.port.requests.scanner ≠ none ∧
      (State.settle begun).transferNow =
        some { purpose := .imageRead, addr := 1036, body := .read 8 } := by decide +kernel
/-- The data phase of a read of one word has no answer while its transfer is in flight (R128, R135,
R140). -/
theorem test_read_not_back :
    (after (exec (.hostDataPhase 0)
      (carrying .readRequested (flying .hostRead (.read 1) idle)))).host.answer = none := by decide
/-- PFAIL in an idle bridge gives SAFE at once (R121). -/
theorem test_safe_at_once : (after (exec .pfailAssertion idle)).power = .safe := by decide
/-- The age counter reaches its limit of 5 and the group rolls back (R19). -/
theorem test_age_timeout :
    (after (exec .ageTimeout { inState .groupOpen with group.age := 5 })).journal.backward =
      .rollbackDue 30 .ageLimit := by decide
/-- Fresh memory fails the mark test (R88). -/
theorem test_fresh_memory :
    (after (exec .anchorLoadComplete State.reset)).events.pendingSet =
      [{ event := .anchorInvalid .mark, repeats := 0 }] := by decide
/-- The live copy holds words 0 to 41 after the load, word 41 from the last read of two words
(R86, R88). -/
theorem test_load_last_word :
    (after (exec .anchorLoadComplete
      { State.reset with mem := [(82, 0x34), (83, 0x12)] })).anchor.live =
      List.replicate 41 0 ++ [0x1234] := by decide +kernel
/-- A cut part raises LINK_ERROR with one cut frame (R159, R168); the bits of the byte that was cut
are discarded (R164). -/
theorem test_cut_frame :
    (after (exec (.lselDeassertion (byteBits 0x04 ++ [true, true])) (framed idle))).events.pendingSet =
      [{ event := .linkError 1 0, repeats := 0 }] := by decide
/-- NONE, 0Ah, on LDO: its bits 4 and 6 of a byte period are 1 (R164, R167). -/
theorem test_ldo_bits :
    ((List.range 8).map (State.ldo (after (exec .nextEvent (framed idle))))) =
      [some false, some false, some false, some false, some true, some false, some true,
        some false] := by decide
theorem test_ldo_high_impedance : State.ldo idle 0 = none := by decide
/-- The two words of a write on the memory lines: the low lane of one, no line after the last
(R38, R140). -/
theorem test_memory_lines :
    (State.memoryLines (flying .dataWrite (.write [(.low, 0xABCD)]) idle) 0 =
      { address := 1024, chipEnable := true, outputEnable := false, writeLow := true,
        writeHigh := false }) ∧
    State.memoryLines (flying .dataWrite (.write [(.low, 0xABCD)]) idle) 1 =
      MemoryLines.inactive := by decide

/-! ## States that meet the hypotheses of the obligations

`witness_<obligation>_<clause>` shows a state, and operands, that meet all the hypotheses of a clause
together. -/

theorem witness_StepTakesFrontCommand :
    (∃ c rest, ∃ s : State, s.pending = c :: rest) ∧ ∃ s : State, s.pending = [] :=
  ⟨⟨.tick, [], { idle with pending := [.tick] }, rfl⟩, idle, rfl⟩

theorem witness_LinkPartRoundTrip :
    Instr.wf (.stage 41 1 [0xFFFF]) = true ∧ Instr.isLinkPart (.stage 41 1 [0xFFFF]) = true ∧
    Instr.wf (.unknownCommand 0xFF) = true ∧ Instr.isLinkPart (.unknownCommand 0xFF) = true ∧
    Instr.wf (.badCheckFrame [0x01, 0]) = true := by decide

theorem witness_LinkPartBytesRecovered :
    decodePart [0x01, 0x59] = some .status ∧
    decodePart [0x07, 0, 9, 0x4A] = some (.stage 0 9 []) := by decide

theorem witness_TransferEffect :
    (∃ (t : Transfer) (n : Nat), t.body = .read n) ∧
    ∃ (t : Transfer) (m : Memory) (ws : List (LaneSet × Word)), m.wf ∧ t.body = .write ws ∧
      0 < ws.length ∧ ¬ t.stores 3 :=
  ⟨⟨⟨.blockRead, 4, .read 4⟩, 4, rfl⟩, ⟨.dataWrite, 2, .write [(.low, 0xABCD)]⟩, [(4, 1)],
    [(.low, 0xABCD)], by decide, rfl, by decide, by simp [Transfer.stores]⟩

theorem witness_CutTransfer :
    ∃ (t : Transfer) (m : Memory) (ws : List (LaneSet × Word)), m.wf ∧ t.body = .write ws ∧
      (5 : Nat) < 2 * (t.addr + 1) ∧ 2 * (t.addr + 1) + 2 ≤ (8 : Nat) ∧ ws.length = 3 :=
  ⟨⟨.anchorWrite, 2, .write (bothLanes [1, 2, 3])⟩, [(4, 1)], bothLanes [1, 2, 3], by decide, rfl,
    by decide, by decide, rfl⟩

/-- A running bridge with queue, saved-block set, pending set and memory in use, on which a step
stores: all the invariants hold of it and the step gives a next state. -/
def busy : State :=
  { working (.retire plainEntry false) (flying .dataWrite (.write [(.low, 0xABCD)])
      (queued [plainEntry, groupEntry] (inState .groupOpen))) with
    journal.saved := [{ block := 1280, state := .claimed }]
    journal.reserved := 1
    events.pendingSet := [{ event := .anchorStored true, repeats := 255 }]
    mem := [(7, 1)]
    pending := [.dataWriteComplete] }

theorem witness_Invariants :
    busy.mem.wf ∧ busy.queueFits ∧ busy.eventsSound ∧ busy.savedSound ∧ busy.anchorAreaUnqueued ∧
    busy.restsUnderReset ∧ busy.powerSound ∧ busy.countersFit ∧ busy.responseSound ∧
    ∃ t, step busy = .next t :=
  ⟨by decide, ⟨by decide, nofun⟩, ⟨by decide, by decide⟩, ⟨by decide, by decide⟩,
    ⟨by decide, nofun⟩, nofun, ⟨nofun, by decide, nofun⟩, ⟨by decide, by decide, by decide⟩, nofun, _, rfl⟩

theorem busy_no_request (q : Requester) (t : Transfer) :
    Requests.get busy.port.requests q ≠ some t := by cases q <;> nofun

theorem busy_no_group_work (w : GroupWork) : ¬ busy.doesWork w := by rintro ⟨k, h⟩; nomatch h

theorem witness_WorkSoundKept : busy.workSound ∧ ∃ t, step busy = .next t := by
  refine ⟨⟨fun q t h => (busy_no_request q t h).elim, ?_,
    fun w h => (busy_no_group_work w h).elim, nofun, trivial, by decide, nofun⟩, _, rfl⟩
  rintro t (h | ⟨q, h⟩)
  · obtain rfl := Option.some.inj h
    exact ⟨plainEntry, rfl⟩
  · exact (busy_no_request q t h).elim

/-- An image is owed, the data write of the head is in flight, and a block is claimed. -/
theorem witness_SavedSetAndReservationsKept :
    busy.savedSound ∧ busy.workSound ∧ busy.reservationSound ∧ busy.journal.reserved = 1 ∧
    ∃ t, step busy = .next t :=
  ⟨⟨by decide, by decide⟩, witness_WorkSoundKept.1,
    ⟨by decide, by decide, fun _ => by decide, fun h => (h (.inr (.inl rfl))).elim,
      fun e h => by cases h; rfl, nofun, fun h => (busy_no_group_work _ h).elim⟩,
    rfl, _, rfl⟩

theorem witness_AnchorCopiesKept : busy.copiesWhole ∧ ∃ t, step busy = .next t :=
  ⟨⟨by decide, by decide⟩, _, rfl⟩

/-- A tick while a write is in flight, and the completion of a read. -/
theorem witness_MemoryChangesOnlyByTransfer_others :
    (∃ (c : Instr) (s t : State), exec c s = .next t ∧ c ≠ .rstAssertion ∧
      (∀ n, c ≠ .powerLoss n) ∧ (∃ tr, s.transferNow = some tr) ∧
      ∀ tr ws, s.transferNow = some tr → tr.body = .write ws →
        c ≠ Purpose.completion tr.purpose) ∧
    ∃ (s t : State), exec .scanReadComplete s = .next t ∧
      ∀ tr ws, s.transferNow = some tr → tr.body = .write ws →
        Instr.scanReadComplete ≠ Purpose.completion tr.purpose := by
  refine ⟨⟨.tick, busy, _, rfl, nofun, nofun, ⟨_, rfl⟩, ?_⟩,
    flying .scanRead (.read 8) idle, _, rfl, ?_⟩
  · rintro tr ws h -
    obtain rfl := Option.some.inj (show _ = some tr from h)
    nofun
  · rintro tr ws h hw
    obtain rfl := Option.some.inj (show _ = some tr from h)
    nomatch hw

theorem witness_MemoryChangesOnlyByTransfer :
    busy.mem.wf ∧ (∃ t, exec .dataWriteComplete busy = .next t) ∧
    (∃ tr, busy.transferNow = some tr) ∧ ∀ tr, busy.transferNow = some tr → ¬ tr.stores 2050 := by
  refine ⟨by decide, ⟨_, rfl⟩, ⟨_, rfl⟩, ?_⟩
  rintro tr h
  obtain rfl := Option.some.inj (show _ = some tr from h)
  simp [Transfer.stores]

theorem witness_RestWhileNotRunning :
    underReset.running = false ∧ isLineEvent .tick = false ∧ underReset.lines.grp = false ∧
    underReset.lines.pfail = false ∧ underReset.lines.lsel = false ∧
    { underReset with lines.grp := true, lines.pfail := true, lines.lsel := true }.running
      = false ∧ partUnfinished (bytesOfBits [true]) = true ∧ unpowered.running = false := by decide

theorem witness_OutputLevels : idle.lines.powered = true ∧ idle.lines.lsel = false := ⟨rfl, rfl⟩

/-- A frame awaited, a READ_JOURNAL that waits, and an answer after three filler bytes. -/
theorem witness_OutputLevels_ldo :
    ((framed idle).lines.lsel = true ∧ (framed idle).link.frame ≠ .answered) ∧
    (∃ s : State, s.link.frame = .answered ∧ s.link.response = []) ∧
    ∃ s : State, s.link.frame = .answered ∧ s.link.response ≠ [] ∧ 2 < s.link.fillers ∧
      1 < s.link.response.length ∧ s.link.fillers + s.link.response.length ≤ 5 :=
  ⟨⟨rfl, nofun⟩, ⟨{ idle with link.frame := .answered }, rfl, rfl⟩,
    { idle with link := { Link.reset with
                          frame := .answered, response := [0x03, 0x57], fillers := 3 } },
    rfl, nofun, by decide, by decide, by decide⟩

/-- Nothing in flight, the last word of a read, and a word with the lane set none. -/
theorem witness_OutputLevels_memory :
    idle.port.inFlight = none ∧
    (∃ t : Transfer, (flying .blockRead (.read 4) idle).port.inFlight = some t ∧
      t.body = .read 4 ∧ 3 < 4) ∧
    ∃ t : Transfer, (flying .dataWrite (.write [(.none, 5)]) idle).port.inFlight = some t ∧
      t.body = .write [(.none, 5)] ∧ 0 < [(LaneSet.none, (5 : Word))].length :=
  ⟨rfl, ⟨_, rfl, rfl, by decide⟩, _, rfl, rfl, by decide⟩

theorem witness_RaiseEvent :
    busy.eventsSound ∧
    (∀ p ∈ busy.events.pendingSet,
      Event.priority p.event ≠ Event.priority (.recovered 30 0)) ∧
    ∃ p ∈ busy.events.pendingSet, Event.priority p.event = Event.priority (.anchorStored false) :=
  ⟨⟨by decide, by decide⟩, by decide, by decide⟩

theorem witness_RequestsAndGrants :
    (idle.port.inFlight = none ∧ idle.port.requests = Requests.empty ∧
      ∀ g cause, idle.journal.backward ≠ .rollbackDue g cause) ∧
    busy.port.inFlight ≠ none ∧
    (∃ g cause, (backward (.rollbackDue 30 .abortCmd) idle).journal.backward =
      .rollbackDue g cause) ∧
    ∃ (s : State) (t : Transfer), s.port.inFlight = none ∧
      (∀ g cause, s.journal.backward ≠ .rollbackDue g cause) ∧
      Requests.get s.port.requests .forward = some t ∧
      (∀ r, r ∈ ((if s.urgent then
          [Requester.backward, .forward, .host, .anchor, .link, .scanner]
        else [Requester.backward, .host, .forward, .anchor, .link, .scanner]).takeWhile
          (· != .forward)) → Requests.get s.port.requests r = none) :=
  ⟨⟨rfl, rfl, nofun⟩, nofun, ⟨30, .abortCmd, rfl⟩,
    { idle with port.requests := { Requests.empty with forward := some ⟨.wipe, 0, .read 1⟩ } },
    ⟨.wipe, 0, .read 1⟩, rfl, nofun, rfl, by decide⟩

theorem witness_MomentCloses :
    idle.group.state ≠ .groupOpen ∧ idle.scanner.due = false ∧
    idle.port.requests = Requests.empty := by decide

theorem witness_AbortTaken_queue :
    (queued [groupEntry] (inState .groupOpen)).inFlightIs .dataWrite = false ∧
    busy.inFlightIs .dataWrite = true ∧ busy.queue = plainEntry :: [groupEntry] := by decide

theorem witness_AbortTaken_forward :
    (∃ s : State, s.journal.forward = some (.retire groupEntry false) ∧
      Tag.isGroup groupEntry.tag = true ∧ s.inFlightIs .dataWrite = true) ∧
    (∃ s : State, s.journal.forward = some (.retire groupEntry false) ∧
      s.inFlightIs .dataWrite = false ∧ s.inFlightFor .forward = true) ∧
    (∃ s : State, s.journal.forward = some (.retire groupEntry false) ∧
      s.inFlightFor .forward = false) ∧
    (busy.journal.forward = some (.retire plainEntry false) ∧
      Tag.isGroup plainEntry.tag = false) ∧
    ∀ e r, idle.journal.forward ≠ some (.retire e r) :=
  ⟨⟨working (.retire groupEntry false) (flying .dataWrite (.write []) idle), rfl, rfl, rfl⟩,
    ⟨working (.retire groupEntry false) (flying .blockRead (.read 4) idle), rfl, rfl, rfl⟩,
    ⟨working (.retire groupEntry false) idle, rfl, rfl⟩, ⟨rfl, rfl⟩, nofun⟩

theorem witness_AbortTaken_host :
    idle.host.access = none ∧
    (carrying (.waiting groupPost) idle).host.access = some (access (.waiting groupPost)) ∧
    (carrying (.forming groupPost) idle).host.access = some (access (.forming groupPost)) ∧
    (carrying .readQueued idle).lookup (Access.block (access .readQueued)) =
      .region .journal (some 0) ∧
    (carrying (.held false) idle).host.access = some (access (.held false)) ∧
    AccessPhase.silent.postPending = false ∧ AccessPhase.silent ≠ .readQueued := by
  decide +kernel

/-- A read that waits on a block of the default PASS. -/
theorem witness_AbortTaken_pass_read :
    ∃ (s : State) (a : Access), s.host.access = some a ∧ a.phase = .readQueued ∧
      ∀ i, s.lookup (Access.block a) ≠ .region .journal i ∧
        s.lookup (Access.block a) ≠ .region .strict i := by
  refine ⟨{ idle with host.access := some { access .readQueued with addr := 4000 } },
    { access .readQueued with addr := 4000 }, rfl, rfl, ?_⟩
  have h : idle.lookup 500 = .region .pass none := by decide +kernel
  intro i
  constructor
  · intro h'; exact absurd (h.symm.trans h') (by simp)
  · intro h'; exact absurd (h.symm.trans h') (by simp)

theorem witness_ScanStartsAndAbandonments :
    ScanKind.onRequest ≠ .none ∧ (∃ s : State, s.scanner.scan ≠ .none) ∧
    idle.scanner.scan = .none :=
  ⟨nofun, ⟨scanning .periodic 512 idle, nofun⟩, rfl⟩

theorem witness_StructuresWritten :
    idle.journal.header = some header ∧ (4095 < 4096 ∧ 2 ^ 21 - 1 < 2 ^ 21) := by decide

theorem witness_RegionLookup :
    anchorTop anchor < 12928 / 128 ∧ 12927 / 128 ≤ anchorTop anchor ∧
    (anchorBase anchor ≤ 256 / 128 ∧ 256 / 128 < anchorBase anchor + anchorLength anchor) ∧
    (regionAttr anchor 1 ≠ .none ∧ regionFirst anchor 1 ≤ 2560 / 128 ∧
      2560 / 128 ≤ regionLast anchor 1 ∧ 2560 / 128 ≠ regionFirst anchor 0 ∧
      regionLast anchor 0 < 2560 / 128) ∧
    ∀ j, j < 8 → regionAttr anchor j = .none ∨ 11 / 128 < regionFirst anchor j ∨
      regionLast anchor j < 11 / 128 := by decide +kernel

theorem witness_RegionLookup_table :
    idle.anchor.isLive = true ∧ State.reset.anchor.isLive = false ∧
    (wordAtIndex anchor (12 + 4 * 7)).toNat % 16 = 0 ∧
    (wordAtIndex (anchor.set 12 1) (12 + 4 * 0)).toNat % 16 = 1 ∧
    (wordAtIndex anchor (12 + 4 * 0)).toNat % 16 = 2 ∧
    (wordAtIndex (anchor.set 12 3) (12 + 4 * 0)).toNat % 16 = 3 ∧
    (wordAtIndex anchor (12 + 4 * 1)).toNat % 16 = 4 := by decide +kernel

theorem witness_Classification :
    { idle with lines.pfail := true }.lines.pfail = true ∧ idle.lines.pfail = false ∧
    4 < (access (.held false)).addr.toNat / 2 % 4 + 5 ∧
    (access (.held false)).addr.toNat / 2 % 4 + (access (.held false)).lanes.length ≤ 4 ∧
    (inState .configuring).group.state = .configuring ∧ idle.group.state ≠ .configuring ∧
    idle.group.state ≠ .recovering ∧
    idle.lookup 1280 = .region .journal (some 0) ∧ idle.lookup 2560 = .region .frozen (some 1) ∧
    idle.lookup 11 = .region .pass none ∧ idle.lookup 10 = .anchorArea ∧
    idle.lookup 256 = .journalArea ∧ idle.lookup 12928 = .unmapped := by decide +kernel

theorem witness_AnchorTests :
    anchorFault anchor = none ∧ storeFault anchor anchor true = none ∧
    storeFault (anchor.set 1 0) anchor true = some .top ∧
    storeFault (anchor.set 3 65) anchor true = some .journalSize ∧
    storeFault (anchor.set 2 3) (anchor.set 3 2) true = some .journalPlace ∧
    storeFault (anchor.set 2 3) (anchor.set 3 2) false = none ∧
    storeFault (anchor.set 4 2) anchor true = some .defaultAttr ∧
    storeFault (anchor.set 5 2048) anchor true = some .mask ∧
    storeFault (anchor.set 6 0) anchor true = some .divisor ∧
    storeFault (anchor.set 36 5) anchor true = some .regionAttr ∧
    storeFault (anchor.set 11 101) anchor true = some .regionRange ∧
    storeFault (anchor.set 12 0x8002) anchor true = some .scanFlag := by decide +kernel

theorem witness_JournalReadTests :
    (header.words).length = 4 ∧
    walkRecord 512 30 8 0 (openRecordWords 30 5 62) = some .opened ∧
    walkRecord 512 30 12 0 (commitRecordWords 30 0 7) = some .commit ∧
    (imageRecordWords 30 1280 [1, 2, 3, 4]).length = 8 := by decide +kernel

theorem witness_StartUp :
    (unpowered.lines.powered = false ∧ unpowered.lines.rst = false) ∧
    (underReset.lines.powered = true ∧ underReset.lines.rst = true) ∧
    ({ unpowered with lines.rst := true }.lines.rst = true) := by decide

theorem witness_BridgeCleared :
    (∃ s s0 : State, s.lines.powered = true ∧
      s0 = (if s.running then State.settle s else s) ∧ s0.port.inFlight ≠ none) ∧
    ∃ s s0 : State, s.closesTo s0 ∧ s0.port.inFlight ≠ none :=
  ⟨⟨busy, _, rfl, rfl, nofun⟩, busy, _, ⟨rfl, rfl⟩, nofun⟩

theorem witness_PfailTaken_assertion :
    (∃ s s0 : State, s.closesTo s0 ∧ s0.lines.pfail = false ∧
      s0.host.access = some (access (.held true))) ∧
    (∃ s s0 : State, s.closesTo s0 ∧ s0.host.access = some (access (.waiting groupPost))) ∧
    (∃ s s0 : State, s.closesTo s0 ∧ s0.accessIs AccessPhase.isWaiting = false ∧
      ∀ a d, s0.host.access = some a → a.phase ≠ .held d) ∧
    (∃ s s0 : State, s.closesTo s0 ∧ s0.port.requests.link ≠ none ∧
      s0.link.read = .outstanding true ∧ s0.link.code = 0x0B ∧ s0.link.status = 0x00) ∧
    ∃ s s0 : State, s.closesTo s0 ∧ s0.port.requests.link ≠ none ∧
      s0.link.read = .outstanding false :=
  ⟨⟨carrying (.held true) idle, _, ⟨rfl, rfl⟩, rfl, rfl⟩,
    ⟨carrying (.waiting groupPost) idle, _, ⟨rfl, rfl⟩, rfl⟩,
    ⟨idle, _, ⟨rfl, rfl⟩, rfl, nofun⟩,
    ⟨{ busy with port.requests.link := some ⟨.linkRead, 1024, .read 1⟩,
                 link := { Link.reset with code := 0x0B, read := .outstanding true } },
      _, ⟨rfl, rfl⟩, nofun, rfl, rfl, rfl⟩,
    ⟨{ busy with port.requests.link := some ⟨.linkRead, 1024, .read 1⟩,
                 link.read := .outstanding false },
      _, ⟨rfl, rfl⟩, nofun, rfl⟩⟩

theorem witness_PfailTaken_rest :
    (∃ s s0 : State, s.closesTo s0 ∧ s0.lines.pfail = true) ∧
    (∃ s : State, s.running = true ∧ s.lines.pfail = true ∧ s.power = .draining ∧
      s.workPending = false) ∧
    ∃ s : State, s.running = true ∧ s.power = .draining ∧ s.workPending = true :=
  ⟨⟨{ idle with lines.pfail := true, power := .safe }, _, ⟨rfl, rfl⟩, rfl⟩,
    ⟨{ idle with lines.pfail := true, power := .draining }, rfl, rfl, rfl, rfl⟩,
    ⟨{ busy with lines.pfail := true, power := .draining }, rfl, rfl, rfl⟩⟩

theorem witness_GrpEdges (g : GroupState) :
    (∃ s s0 : State, s.closesTo s0 ∧ s0.lines.grp = false ∧ s.group.state = g) ∧
    ∃ s s0 : State, s.closesTo s0 ∧ s0.lines.grp = true ∧ s.group.state = g :=
  ⟨⟨inState g, _, ⟨rfl, rfl⟩, by cases g <;> rfl, rfl⟩,
    { inState g with lines.grp := true }, _, ⟨rfl, rfl⟩, by cases g <;> rfl, rfl⟩

theorem witness_TickEffect :
    ∃ s s0 : State, s.closesTo s0 ∧ s0.group.timeRunning = true := ⟨idle, _, ⟨rfl, rfl⟩, rfl⟩

theorem witness_AbortGroupAndAgeTimeout :
    (∃ s s0 : State, s.closesTo s0 ∧ s0.link.frame = .awaiting ∧ s0.group.state = .groupOpen) ∧
    (∃ s : State, s.running = true ∧ s.group.state = .groupOpen ∧
      (wordAtIndex s.anchor.live 7).toNat ≠ 0 ∧
      (wordAtIndex s.anchor.live 7).toNat ≤ s.group.age) ∧
    ∃ s : State, s.running = true ∧ s.group.state = .groupOpen ∧
      s.group.age < (wordAtIndex s.anchor.live 7).toNat :=
  ⟨⟨framed (inState .groupOpen), _, ⟨rfl, rfl⟩, rfl, rfl⟩,
    ⟨{ inState .groupOpen with group.age := 5 }, by decide⟩,
    { inState .groupOpen with group.age := 4 }, by decide⟩

theorem witness_LinkFrames :
    (∃ s s0 : State, s.closesTo s0 ∧ s0.lines.lsel = false) ∧
    (∃ (bits : List Bool) (s s0 : State), s.closesTo s0 ∧ s0.lines.lsel = true ∧
      partUnfinished (bytesOfBits bits) = true ∧ bytesOfBits bits ≠ [] ∧
      s0.link.frame = .awaiting) ∧
    ([true, true, true, true, true, true, true] : List Bool).length < 8 ∧
    (∃ s s0 : State, s.closesTo s0 ∧ Instr.isLinkPart .status = true ∧
      s0.link.frame ≠ .awaiting) ∧
    (∃ (code : Byte) (s s0 : State), s.closesTo s0 ∧ s0.link.frame = .awaiting ∧
      12 < code.toNat) ∧
    ∃ (part : List Byte) (s s0 : State), s.closesTo s0 ∧ s0.link.frame = .awaiting ∧
      partLength part = some part.length ∧ byteSum part ≠ 0x5A :=
  ⟨⟨idle, _, ⟨rfl, rfl⟩, rfl⟩, ⟨[0x0B, 0, 0, 4].flatMap byteBits, framed idle, _, ⟨rfl, rfl⟩, rfl,
      by decide, by decide, rfl⟩, by decide,
    ⟨idle, _, ⟨rfl, rfl⟩, rfl, nofun⟩, ⟨0x0D, framed idle, _, ⟨rfl, rfl⟩, rfl, by decide⟩,
    [0x01, 0x58], framed idle, _, ⟨rfl, rfl⟩, rfl, rfl, by decide⟩

/-- The link commands that need no more than a frame: STATUS, SET_MASK, SCAN_REGION, ABORT_GROUP. -/
theorem witness_Framed :
    ∃ s s0 : State, s.closesTo s0 ∧ s0.link.frame = .awaiting :=
  ⟨framed idle, _, ⟨rfl, rfl⟩, rfl⟩

theorem witness_EventCommands :
    (∃ s s0 : State, s.closesTo s0 ∧ s0.link.frame = .awaiting ∧ s0.events.pendingSet = []) ∧
    ∃ (s s0 : State) (p : PendingEvent), s.closesTo s0 ∧ s0.link.frame = .awaiting ∧
      s0.eventsSound ∧ p ∈ s0.events.pendingSet ∧
      ∀ q ∈ s0.events.pendingSet, Event.priority p.event ≤ Event.priority q.event :=
  ⟨⟨framed idle, _, ⟨rfl, rfl⟩, rfl, rfl⟩, framed busy, _, ⟨.anchorStored true, 255⟩, ⟨rfl, rfl⟩,
    rfl, ⟨by decide, by decide⟩, by decide, by decide⟩

theorem witness_AnchorCopyCommands :
    (∃ s s0 : State, s.closesTo s0 ∧ s0.link.frame = .awaiting ∧ s0.group.state = .recovering) ∧
    (∃ s s0 : State, s.closesTo s0 ∧ s0.link.frame = .awaiting ∧
      s0.group.state ≠ .recovering ∧ s0.group.state ≠ .configuring ∧
      s0.anchor.staging.length = 42) ∧
    ((41 : Byte).toNat ≤ 41 ∧ 1 ≤ (1 : Byte).toNat ∧ (41 : Byte).toNat + (1 : Byte).toNat ≤ 42) ∧
    (42 < (34 : Byte).toNat + (9 : Byte).toNat) ∧
    stageWordsWf 1 [0xFFFF] = true ∧ stageWordsWf 9 [] = true :=
  ⟨⟨framed (inState .recovering), _, ⟨rfl, rfl⟩, rfl, rfl⟩,
    ⟨framed idle, _, ⟨rfl, rfl⟩, rfl, nofun, nofun, rfl⟩, by decide, by decide, rfl, rfl⟩

theorem witness_JournalReads_command :
    (∃ s s0 : State, s.closesTo s0 ∧ s0.link.frame = .awaiting ∧ s0.lines.pfail = true) ∧
    (∃ s s0 : State, s.closesTo s0 ∧ s0.link.frame = .awaiting ∧ s0.group.state ≠ .recovering ∧
      s0.lines.pfail = false ∧ s0.link.read = .none ∧ s0.anchor.isLive = false) ∧
    ∃ s s0 : State, s.closesTo s0 ∧ s0.link.frame = .awaiting ∧ s0.group.state ≠ .recovering ∧
      s0.lines.pfail = false ∧ s0.link.read = .none ∧ s0.anchor.isLive = true ∧
      (511 : Word).toNat + (1 : Byte).toNat ≤ 512 * (wordAtIndex s0.anchor.live 3).toNat ∧
      512 * (wordAtIndex s0.anchor.live 3).toNat < (511 : Word).toNat + (2 : Byte).toNat :=
  ⟨⟨framed { idle with lines.pfail := true, power := .safe }, _, ⟨rfl, rfl⟩, rfl, rfl⟩,
    ⟨framed { inState .unconfigured with anchor.isLive := false }, _, ⟨rfl, rfl⟩, rfl, nofun, rfl,
      rfl, rfl⟩,
    framed idle, _, ⟨rfl, rfl⟩, rfl, nofun, rfl, rfl, rfl, by decide, by decide⟩

theorem witness_JournalReads_completion (heard : Bool) :
    ∃ (t : Transfer) (s s0 : State), s.completes .linkRead t s0 ∧
      s0.link.read = .outstanding heard :=
  ⟨_, { flying .linkRead (.read 8) idle with link.read := .outstanding heard }, _,
    ⟨⟨rfl, rfl⟩, rfl, rfl⟩, rfl⟩

theorem witness_StoreAndFormatCommands :
    (∃ s s0 : State, s.closesTo s0 ∧ s0.link.frame = .awaiting ∧ s0.group.state ≠ .idle ∧
      s0.group.state ≠ .unconfigured ∧ s0.group.state ≠ .halted) ∧
    (∃ s s0 : State, s.closesTo s0 ∧ s0.link.frame = .awaiting ∧ s0.power ≠ .normal) ∧
    (∃ s s0 : State, s.closesTo s0 ∧ s0.link.frame = .awaiting ∧ s0.group.state = .idle ∧
      s0.power = .normal ∧ storeFault s0.anchor.staging s0.anchor.live true = some .divisor) ∧
    ∃ s s0 : State, s.closesTo s0 ∧ s0.link.frame = .awaiting ∧ s0.group.state = .idle ∧
      s0.power = .normal ∧ storeFault s0.anchor.staging s0.anchor.live true = none :=
  ⟨⟨framed (inState .opening), _, ⟨rfl, rfl⟩, rfl, nofun, nofun, nofun⟩,
    ⟨framed { idle with power := .safe }, _, ⟨rfl, rfl⟩, rfl, nofun⟩,
    ⟨framed { idle with anchor.staging := anchor.set 6 0 }, _, ⟨rfl, rfl⟩, rfl, rfl, rfl,
      by decide +kernel⟩,
    framed idle, _, ⟨rfl, rfl⟩, rfl, rfl, rfl, by decide +kernel⟩

/-- The verdicts that ClassifiedAccess and GroupWriteReserved start from. -/
theorem witness_ClassifiedAccess :
    State.verdict (access (.held false)) { idle with lines.pfail := true } =
      .refuse .powerFail ∧
    State.verdict (access (.held false)) (inState .opening) = .hold ∧
    State.verdict { access (.held false) with write := false } idle = .serve ∧
    (∃ e ∈ (queued [groupEntry] idle).queue, e.block = Access.block (access (.held false))) ∧
    State.verdict (access (.held false)) idle = .postPlain ∧
    (∃ l ∈ (access (.held false)).lanes, l ≠ LaneSet.none) ∧
    (queued (List.replicate 7 plainEntry) idle).queue.length < 8 ∧
    8 ≤ (queued (List.replicate 8 plainEntry) idle).queue.length ∧
    State.verdict { access (.held false) with lanes := [.none] } idle = .postPlain := by
  decide +kernel

theorem witness_GroupWriteReserved :
    State.verdict (access (.held false)) (inState .groupOpen) = .postGroup ∧
    (∃ b ∈ busy.journal.saved, b.block = Access.block (access (.held false))) ∧
    State.verdict (access (.held false)) { inState .groupOpen with journal.written := 62 } =
      .postGroup ∧
    { inState .groupOpen with journal.written := 62 }.journal.written + 0 = idle.capacity ∧
    { inState .groupOpen with journal.written := 61 }.journal.written + 0 ≠ idle.capacity := by
  decide +kernel

theorem witness_HostBusCommands_phase :
    (∃ (p : AddressPhase) (s s0 : State), s.closesTo s0 ∧ p.wf = true ∧ s0.host.access = none ∧
      p.write = true ∧ p.singleByte = true) ∧
    (∃ (p : AddressPhase) (s s0 : State), s.closesTo s0 ∧ p.wf = true ∧ s0.host.access = none ∧
      p.write = false) ∧
    (∃ s s0 : State, s.closesTo s0 ∧ s0.host.access ≠ none) ∧
    (carrying (.held true) idle).host.access = some (access (.held true)) :=
  ⟨⟨⟨0xFFFFFF, true, 4, [], true⟩, idle, _, ⟨rfl, rfl⟩, rfl, rfl, rfl, rfl⟩,
    ⟨⟨0, false, 4, [], false⟩, idle, _, ⟨rfl, rfl⟩, rfl, rfl, rfl⟩,
    ⟨carrying .silent idle, _, ⟨rfl, rfl⟩, nofun⟩, rfl⟩

theorem witness_HostBusCommands_waits :
    (∃ (a : Access) (s : State), s.running = true ∧ s.host.access = some a ∧
      a.phase = .waiting plainPost ∧ s.queue.length < 8) ∧
    (∃ (a : Access) (s : State), s.running = true ∧ s.host.access = some a ∧
      a.phase = .readQueued ∧ ∀ e ∈ s.queue, e.block ≠ Access.block a) ∧
    ∃ (t : Transfer) (a : Access) (s s0 : State), s.completes .hostRead t s0 ∧
      s0.host.access = some a ∧ a.phase = .readRequested :=
  ⟨⟨_, carrying (.waiting plainPost) (queued (List.replicate 7 plainEntry) idle), rfl, rfl, rfl,
      by decide⟩,
    ⟨_, carrying .readQueued (queued [plainEntry] idle), rfl, rfl, rfl, by decide⟩,
    _, _, carrying .readRequested (flying .hostRead (.read 1) idle), _, ⟨⟨rfl, rfl⟩, rfl, rfl⟩,
    rfl, rfl⟩

theorem witness_DataPhases (p : AccessPhase) :
    ∃ (a : Access) (s s0 : State), s.closesTo s0 ∧ s0.host.access = some a ∧ a.phase = p :=
  ⟨access p, carrying p idle, _, ⟨rfl, rfl⟩, by cases p <;> rfl, rfl⟩

/-- A read of two words in flight, before its first and before its last data phase. -/
theorem witness_DataPhases_early (answered : Nat) :
    ∃ (t : Transfer) (a : Access) (s s0 : State), s.closesTo s0 ∧ s0.host.access = some a ∧
      a.phase = .readRequested ∧ s0.port.inFlight = some t ∧ t.purpose = .hostRead ∧
      a.lanes.length = 2 ∧ a.answered = answered :=
  ⟨_, { access .readRequested with
        write := false, lanes := [.both, .both], answered := answered },
    { flying .hostRead (.read 2) idle with
      host.access := some { access .readRequested with
        write := false, lanes := [.both, .both], answered := answered } },
    _, ⟨rfl, rfl⟩, rfl, rfl, rfl, rfl, rfl, rfl⟩

theorem witness_ForwardWorkStarts :
    (∃ (e : Entry) (rest : List Entry) (s : State), s.running = true ∧
      s.journal.forward = none ∧ s.queue = e :: rest ∧
      ∀ w, s.journal.handed = some w → State.workReady w s = false) ∧
    (∃ s : State, s.running = true ∧ s.journal.forward = none ∧
      s.journal.handed = some .opening ∧ s.journal.header = some header ∧ header.group ≠ 4095) ∧
    (∃ s : State, s.running = true ∧ s.journal.forward = none ∧
      s.journal.handed = some .opening ∧
      s.journal.header = some { header with group := 4095 }) ∧
    (∃ s : State, s.running = true ∧ s.journal.forward = none ∧
      s.journal.handed = some .commit ∧ s.journal.header = some header ∧
      (∀ e ∈ s.queue, Tag.isGroup e.tag = false) ∧
      s.accessIs AccessPhase.groupWritePending = false) ∧
    (∃ s : State, s.running = true ∧ s.journal.forward = none ∧
      s.journal.handed = some (.closeRollback .ageLimit 62) ∧ s.journal.header = some header) ∧
    ∃ s : State, s.running = true ∧ s.journal.forward ≠ none :=
  ⟨⟨groupEntry, [], handed .commit (queued [groupEntry] idle), rfl, rfl, rfl, by
      rintro w h
      obtain rfl : w = .commit := (Option.some.inj h).symm
      rfl⟩,
    ⟨handed .opening idle, rfl, rfl, rfl, rfl, by decide⟩,
    ⟨{ handed .opening idle with journal.header := some { header with group := 4095 } }, rfl, rfl,
      rfl, rfl⟩,
    ⟨handed .commit (queued [plainEntry] idle), rfl, rfl, rfl, rfl, by decide, rfl⟩,
    ⟨handed (.closeRollback .ageLimit 62) idle, rfl, rfl, rfl, rfl⟩,
    busy, rfl, nofun⟩

theorem witness_OpeningWork :
    (idle.journal.header = some header ∧ 63 < header.highWater ∧ header.highWater ≤ 64) ∧
    (∃ (t : Transfer) (s s0 : State), s.completes .wipe t s0 ∧
      s0.journal.forward = some (.groupWork .opening 16)) ∧
    (∃ (t : Transfer) (h : Header) (s s0 : State), s.completes .wipeHeader t s0 ∧
      s0.journal.slotWriting = some h) ∧
    ∃ (t : Transfer) (h : Header) (s s0 : State), s.completes .openingHeader t s0 ∧
      s0.journal.slotWriting = some h ∧ s0.anchor.isLive = true :=
  ⟨by decide,
    ⟨_, working (.groupWork .opening 16) (flying .wipe (.write []) idle), _,
      ⟨⟨rfl, rfl⟩, rfl, rfl⟩, rfl⟩,
    ⟨_, _, working (.groupWork .opening 64) (flying .wipeHeader (.write []) idle), _,
      ⟨⟨rfl, rfl⟩, rfl, rfl⟩, rfl⟩,
    _, _, working (.groupWork .opening 0) (flying .openingHeader (.write []) idle), _,
    ⟨⟨rfl, rfl⟩, rfl, rfl⟩, rfl, rfl⟩

theorem witness_OpeningEnds (abort close : Bool) :
    ∃ (t : Transfer) (s s0 : State), s.completes .openRecord t s0 ∧
      s0.group.abortPending = abort ∧ s0.group.closePending = close :=
  ⟨_, { flying .openRecord (.write []) (inState .opening) with
        group.abortPending := abort, group.closePending := close }, _,
    ⟨⟨rfl, rfl⟩, rfl, rfl⟩, rfl, rfl⟩

theorem witness_CommitAndRetirement (removed : Bool) :
    (∃ (t : Transfer) (e : Entry) (s s0 : State), s.completes .blockRead t s0 ∧
      s0.journal.forward = some (.retire e removed)) ∧
    (∃ (t : Transfer) (e : Entry) (s s0 : State), s.completes .imageWrite t s0 ∧
      s0.journal.forward = some (.retire e removed)) ∧
    (∃ (t : Transfer) (e : Entry) (rest : List Entry) (s s0 : State),
      s.completes .dataWrite t s0 ∧ s0.queue = e :: rest) ∧
    (∃ (t : Transfer) (h : Header) (s s0 : State), s.completes .commitRecord t s0 ∧
      s0.journal.header = some h) ∧
    ∃ (t : Transfer) (h : Header) (s s0 : State), s.completes .commitHeader t s0 ∧
      s0.journal.slotWriting = some h :=
  ⟨⟨_, _, working (.retire groupEntry removed) (flying .blockRead (.read 4) idle), _,
      ⟨⟨rfl, rfl⟩, rfl, rfl⟩, rfl⟩,
    ⟨_, _, working (.retire groupEntry removed) (flying .imageWrite (.write []) idle), _,
      ⟨⟨rfl, rfl⟩, rfl, rfl⟩, rfl⟩,
    ⟨_, _, _, flying .dataWrite (.write []) (queued [groupEntry] idle), _,
      ⟨⟨rfl, rfl⟩, rfl, rfl⟩, rfl⟩,
    ⟨_, _, flying .commitRecord (.write []) (inState .committing), _,
      ⟨⟨rfl, rfl⟩, rfl, rfl⟩, rfl⟩,
    _, _, working (.groupWork .commit 0)
      (flying .commitHeader (.write []) (inState .committing)), _, ⟨⟨rfl, rfl⟩, rfl, rfl⟩, rfl⟩

/-- An address phase of a read of a PASS block between an abort and the start of its rollback. -/
theorem witness_RollbackSteps_due :
    ∃ (c : Instr) (s t : State), s.journal.backward = .rollbackDue 30 .ageLimit ∧
      exec c s = .next t ∧ t.journal.backward = .rollbackDue 30 .ageLimit ∧
      t.port.requests.host ≠ none :=
  ⟨.hostAddressPhase ⟨4000, false, 1, [], false⟩,
    backward (.rollbackDue 30 .ageLimit) (inState .rollingBack), _, rfl, rfl, by decide +kernel,
    by decide +kernel⟩

theorem witness_RollbackSteps_start :
    (∃ s : State, s.running = true ∧ s.journal.backward = .rollbackDue 30 .abortCmd ∧
      s.inFlightFor .forward = true) ∧
    (∃ s : State, s.running = true ∧ s.journal.backward = .rollbackDue 30 .abortCmd ∧
      s.inFlightFor .forward = false ∧ s.journal.written = 0) ∧
    ∃ s : State, s.running = true ∧ s.journal.backward = .rollbackDue 30 .abortCmd ∧
      s.inFlightFor .forward = false ∧ 0 < s.journal.written :=
  ⟨⟨backward (.rollbackDue 30 .abortCmd) (flying .blockRead (.read 4) idle), rfl, rfl, rfl⟩,
    ⟨backward (.rollbackDue 30 .abortCmd) idle, rfl, rfl, rfl, rfl⟩,
    backward (.rollbackDue 30 .abortCmd) { idle with journal.written := 1 }, rfl, rfl, rfl,
    by decide⟩

theorem witness_RollbackSteps_completions :
    (∃ (t : Transfer) (s s0 : State), s.completes .imageRead t s0 ∧
      s0.journal.backward = .restoring rollback ∧
      imageRecordOk s0.anchor.live rollback.group (Transfer.wordsRead t s0.mem) = false) ∧
    (∃ (t : Transfer) (s s0 : State), s.completes .imageRead t s0 ∧
      s0.journal.backward = .restoring rollback ∧
      imageRecordOk s0.anchor.live rollback.group (Transfer.wordsRead t s0.mem) = true) ∧
    (∃ (t : Transfer) (s s0 : State), s.completes .restoreWrite t s0 ∧
      s0.journal.backward = .restoring rollback) ∧
    (∃ (t : Transfer) (s s0 : State), s.completes .undoneWrite t s0 ∧
      s0.journal.backward = .restoring rollback) ∧
    ∃ (t : Transfer) (h : Header) (s s0 : State), s.completes .rollbackHeader t s0 ∧
      s0.journal.slotWriting = some h ∧
      s0.journal.forward = some (.groupWork (.closeRollback .abortCmd 2) 0) :=
  ⟨⟨_, backward (.restoring rollback) (flying .imageRead (.read 8) idle), _,
      ⟨⟨rfl, rfl⟩, rfl, rfl⟩, rfl, by decide +kernel⟩,
    ⟨_, backward (.restoring rollback) { flying .imageRead (.read 8) idle with
        mem := Memory.putWords [] 1024 (bothLanes (imageRecordWords 30 1280 [1, 2, 3, 4])) }, _,
      ⟨⟨rfl, rfl⟩, rfl, rfl⟩, rfl, by decide +kernel⟩,
    ⟨_, backward (.restoring rollback) (flying .restoreWrite (.write []) idle), _,
      ⟨⟨rfl, rfl⟩, rfl, rfl⟩, rfl⟩,
    ⟨_, backward (.restoring rollback) (flying .undoneWrite (.write []) idle), _,
      ⟨⟨rfl, rfl⟩, rfl, rfl⟩, rfl⟩,
    _, _, working (.groupWork (.closeRollback .abortCmd 2) 0)
      (flying .rollbackHeader (.write []) (inState .rollingBack)), _, ⟨⟨rfl, rfl⟩, rfl, rfl⟩, rfl,
    rfl⟩

theorem witness_AnchorLoadAndHeaderChoice_load :
    (∃ s : State, s.port.inFlight =
        some { purpose := .anchorLoad, addr := 33, body := .read 8 } ∧
      s.port.requests = Requests.empty ∧ s.journal.backward = .idle ∧ 33 + 8 < 42) ∧
    (∃ s s0 : State, s.closesTo s0 ∧
      s0.port.inFlight = some { purpose := .anchorLoad, addr := 0, body := .read 8 } ∧
      s0.port.requests = Requests.empty ∧ s0.journal.backward = .idle ∧
      anchorFault (Memory.words s0.mem 0 42) = some .mark) ∧
    ∃ s s0 : State, s.closesTo s0 ∧
      s0.port.inFlight = some { purpose := .anchorLoad, addr := 0, body := .read 8 } ∧
      s0.port.requests = Requests.empty ∧ s0.journal.backward = .idle ∧
      anchorFault (Memory.words s0.mem 0 42) = none :=
  ⟨⟨{ State.reset with port.inFlight := some ⟨.anchorLoad, 33, .read 8⟩ }, rfl, rfl, rfl, by decide⟩,
    ⟨State.reset, _, ⟨rfl, rfl⟩, rfl, rfl, rfl, by decide +kernel⟩,
    { State.reset with mem := Memory.putWords [] 0 (bothLanes anchor) }, _, ⟨rfl, rfl⟩, rfl, rfl,
    rfl, by decide +kernel⟩

theorem witness_AnchorLoadAndHeaderChoice_slots :
    (∃ (t : Transfer) (s s0 : State), s.completes .slotsRead t s0 ∧
      newestHeader (512 * (wordAtIndex s0.anchor.live 3).toNat) (Transfer.wordsRead t s0.mem) =
        none) ∧
    ∃ (t : Transfer) (s s0 : State), s.completes .slotsRead t s0 ∧
      newestHeader (512 * (wordAtIndex s0.anchor.live 3).toNat) (Transfer.wordsRead t s0.mem) =
        some header :=
  ⟨⟨_, flying .slotsRead (.read 8) (inState .recovering), _, ⟨⟨rfl, rfl⟩, rfl, rfl⟩,
      by decide +kernel⟩,
    _, { flying .slotsRead (.read 8) (inState .recovering) with
        mem := Memory.putWords [] 1024 (bothLanes header.words) }, _,
    ⟨⟨rfl, rfl⟩, rfl, rfl⟩, by decide +kernel⟩

theorem witness_WalkAdvances :
    ∃ (t : Transfer) (s s0 : State), s.completes .walkRead t s0 ∧
      s0.journal.backward = .walk 504 [1280] ∧ s0.journal.header = some header :=
  ⟨_, backward (.walk 504 [1280]) (flying .walkRead (.read 8) (inState .recovering)), _,
    ⟨⟨rfl, rfl⟩, rfl, rfl⟩, rfl, rfl⟩

theorem witness_RecoveryHeaders :
    (∃ s : State, s.running = true ∧ s.journal.forward = none ∧
      s.journal.handed = some (.recoveryRewrite 512) ∧ s.journal.header = some header) ∧
    (∃ s : State, s.running = true ∧ s.journal.forward = none ∧
      s.journal.handed = some (.closeRecovery 3) ∧ s.journal.header = some header) ∧
    (∃ (t : Transfer) (h : Header) (s s0 : State), s.completes .recoveryRewrite t s0 ∧
      s0.journal.slotWriting = some h) ∧
    ∃ (t : Transfer) (h : Header) (s s0 : State), s.completes .recoveryClose t s0 ∧
      s0.journal.slotWriting = some h ∧
      s0.journal.forward = some (.groupWork (.closeRecovery 3) 0) :=
  ⟨⟨handed (.recoveryRewrite 512) (inState .recovering), rfl, rfl, rfl, rfl⟩,
    ⟨handed (.closeRecovery 3) (inState .recovering), rfl, rfl, rfl, rfl⟩,
    ⟨_, _, working (.groupWork (.recoveryRewrite 512) 0)
      (flying .recoveryRewrite (.write []) (inState .recovering)), _, ⟨⟨rfl, rfl⟩, rfl, rfl⟩,
      rfl⟩,
    _, _, working (.groupWork (.closeRecovery 3) 0)
      (flying .recoveryClose (.write []) (inState .recovering)), _, ⟨⟨rfl, rfl⟩, rfl, rfl⟩, rfl,
    rfl⟩

/-- A store in progress at a stage. -/
def job (stage : JobStage) : ConfigJob :=
  { store := true, formats := true, fromUnconfigured := false, stage := stage }

def storing (stage : JobStage) : State :=
  { inState .configuring with anchor.job := some (job stage) }

theorem witness_StoreProceeds :
    (∃ (j : ConfigJob) (s : State), s.running = true ∧ s.group.state = .configuring ∧
      s.anchor.job = some j ∧ j.store = true ∧ j.stage = .waitingQuiet ∧ s.quiet = true) ∧
    (∃ (t : Transfer) (j : ConfigJob) (s s0 : State), s.completes .slotClear t s0 ∧
      s0.anchor.job = some j) ∧
    idle.anchor.staging.length = 42 ∧
    ∀ k, ∃ (t : Transfer) (j : ConfigJob) (s s0 : State), s.completes .anchorWrite t s0 ∧
      s0.anchor.job = some j ∧ j.stage = .writingAnchor k :=
  ⟨⟨_, storing .waitingQuiet, rfl, rfl, rfl, rfl, rfl, rfl⟩,
    ⟨_, _, flying .slotClear (.write []) (storing .clearingSlots), _, ⟨⟨rfl, rfl⟩, rfl, rfl⟩,
      rfl⟩, rfl,
    fun k => ⟨_, _, flying .anchorWrite (.write []) (storing (.writingAnchor k)), _,
      ⟨⟨rfl, rfl⟩, rfl, rfl⟩, rfl, rfl⟩⟩

theorem witness_FormatProceeds :
    (∃ s : State, s.running = true ∧ s.journal.forward = none ∧
      s.journal.handed = some .format ∧ s.quiet = true) ∧
    ∀ k, ∃ (t : Transfer) (j : ConfigJob) (s s0 : State), s.completes .format t s0 ∧
      s0.anchor.job = some j ∧ s0.journal.forward = some (.groupWork .format k) :=
  ⟨⟨handed .format (inState .configuring), rfl, rfl, rfl, rfl⟩,
    fun k => ⟨_, _, working (.groupWork .format k)
      (flying .format (.write []) (storing .formatting)), _, ⟨⟨rfl, rfl⟩, rfl, rfl⟩, rfl, rfl⟩⟩

theorem witness_ScansRunAndEnd_expiry :
    (∃ s : State, s.running = true ∧ GroupState.scannerWorks s.group.state = true ∧
      (wordAtIndex s.anchor.live 8).toNat ≠ 0 ∧
      (wordAtIndex s.anchor.live 8).toNat ≤ s.scanner.count ∧ s.scanner.due = false ∧
      s.scanner.scan ≠ .periodic ∧
      nextPeriodic s.anchor.live s.scanner.last = some 1 ∧ s.lines.pfail = false ∧
      s.scanner.scan = .none) ∧
    nextPeriodic (anchor.set 16 4) (some 1) = none ∧
    ∃ s : State, s.running = true ∧ GroupState.scannerWorks s.group.state = true ∧
      s.scanner.due = true ∧ s.scanner.scan = .none ∧
      nextPeriodic s.anchor.live s.scanner.last = some 1 :=
  ⟨⟨{ idle with scanner.count := 3 }, by decide +kernel⟩, by decide +kernel,
    { idle with scanner.due := true, scanner.last := some 1 }, by decide +kernel⟩

theorem witness_ScansRunAndEnd_reads (kind : ScanKind) (left : Nat) :
    ∃ (t : Transfer) (s s0 : State), s.completes .scanRead t s0 ∧ s0.port.discard = false ∧
      s0.scanner.scan = kind ∧ s0.scanner.remaining = left :=
  ⟨_, scanning kind left (flying .scanRead (.read 8) idle), _, ⟨⟨rfl, rfl⟩, rfl, rfl⟩, rfl, rfl,
    rfl⟩

theorem witness_ScansRunAndEnd_discards (kind : ScanKind) :
    ∃ (t : Transfer) (s s0 : State), s.completes .scanRead t s0 ∧ s0.port.discard = true ∧
      s0.scanner.scan = kind :=
  ⟨_, { scanning kind 512 (flying .scanRead (.read 8) idle) with port.discard := true }, _,
    ⟨⟨rfl, rfl⟩, rfl, rfl⟩, rfl, rfl⟩

/-- After the last periodic region 7 the search begins at entry 0 again, and a single eligible
region is chosen again (R152). -/
theorem witness_ScansRunAndEnd_search :
    nextPeriodic anchor (some 7) = some 1 ∧ nextPeriodic anchor (some 1) = some 1 ∧
    nextPeriodic anchor none = some 1 := by decide +kernel

end Sys2Proof.Tests
end

/-! # Proofs: the commands of a running bridge

How a command that a running bridge takes goes on, said once for the three forms a meaning has
(`State.outside`, `State.within`, `State.complete`). -/

namespace Sys2Proof.Machine

/-- A command from outside acts on the state in which the moment before it has closed. -/
theorem State.outside_of_closesTo {s s0 : State} (h : s.closesTo s0) (f : State → State) :
    State.outside f s = .next (State.finish (f s0)) := by
  obtain ⟨hrun, rfl⟩ := h
  simp [State.outside, hrun]

/-- One of the bridge's own happenings acts on the state as it stands. -/
theorem State.within_of_running {s : State} (h : s.running = true) (f : State → State) :
    State.within f s = .next (State.finish (f s)) := by
  simp [State.within, h]

theorem State.outside_of_not_running {s : State} (h : s.running = false) (f : State → State) :
    State.outside f s = .next s := by
  simp [State.outside, h]

theorem State.within_of_not_running {s : State} (h : s.running = false) (f : State → State) :
    State.within f s = .next s := by
  simp [State.within, h]

/-- The completion of the transfer in flight: its owner goes on with the words read. -/
theorem State.completion_of_completes {p : Purpose} {t : Transfer} {s s0 : State}
    (h : s.completes p t s0) (after : Transfer → List Word → State → State) :
    State.outside (State.complete p after) s =
      .next (State.finish (after t (Transfer.wordsRead t s0.mem) (State.completed t s0))) := by
  obtain ⟨hclose, hflight, hp⟩ := h
  simp [State.outside_of_closesTo hclose, State.complete, hflight, hp, State.completed]

/-- The completion of the transfer in flight, its owner's next state given. -/
theorem State.completion_eq {p : Purpose} {t : Transfer} {s s0 s' : State}
    {after : Transfer → List Word → State → State} (h : s.completes p t s0)
    (hafter : after t (Transfer.wordsRead t s0.mem) (State.completed t s0) = s') :
    State.outside (State.complete p after) s = .next (State.finish s') := by
  rw [State.completion_of_completes h, hafter]

/-- In an awaiting frame a command part is taken. -/
theorem State.inFrame_of_awaiting {s : State} (h : s.link.frame = .awaiting)
    (f : State → State) : State.inFrame f s = f s := by
  simp [State.inFrame, h]

/-- A running bridge is powered, and RST is deasserted. -/
theorem State.running_iff (s : State) :
    s.running = true ↔ s.lines.powered = true ∧ s.lines.rst = false := by
  simp [State.running]

/-- The close of a moment moves no line. -/
theorem State.closesTo.lines_eq {s s0 : State} (h : s.closesTo s0) : s0.lines = s.lines := by
  obtain ⟨-, rfl⟩ := h
  simp

/-- Every command but those of the supply and the lines is taken by a running bridge only. -/
theorem exec_form {c : Instr} (h : isLineEvent c = false) :
    ∃ f : State → State,
      (∀ s, exec c s = State.outside f s) ∨ (∀ s, exec c s = State.within f s) := by
  cases c
  case powerOn | powerLoss | rstAssertion | rstRelease | grpRise | grpFall | pfailAssertion |
      pfailDeassertion | lselAssertion | lselDeassertion => simp [isLineEvent] at h
  case heldAccessRelease | waitingWriteTakesPlace | queuedReadProceeds | ageTimeout |
      scanIntervalExpiry | duePeriodicScanStart | forwardWorkStart | storeWorkStart |
      backwardActivityStart | safeEntry => exact ⟨_, .inr fun _ => rfl⟩
  case hostAddressPhase p =>
    exact ⟨fun s => if s.host.access.isNone && AddressPhase.wf p then
      State.classify (AddressPhase.access p) { s with host.answer := none } else s,
      .inl fun _ => rfl⟩
  case tick =>
    exact ⟨fun s => if s.group.timeRunning then State.takeTick s else s, .inl fun _ => rfl⟩
  all_goals exact ⟨_, .inl fun _ => rfl⟩

end Sys2Proof.Machine

/-! # Proofs: the bridge at rest, and the power cut (O17, O32) -/

namespace Sys2Proof.Machine

/-- Settles O17: the clauses on the lines are the arms of the six line commands that a bridge at
rest takes. -/
theorem restWhileNotRunning : Obligations.RestWhileNotRunning := by
  refine ⟨fun c s hrest hline => ?_, fun s hrest => ⟨?_, ?_, ?_, ?_, ?_, ?_⟩⟩
  · obtain ⟨f, hf | hf⟩ := exec_form hline
    · rw [hf, State.outside_of_not_running hrest]
    · rw [hf, State.within_of_not_running hrest]
  · intro hgrp; simp [exec, execGrpRise, hgrp, hrest]
  · intro hgrp; simp [exec, execGrpFall, hgrp, hrest]
  · intro hpfail; simp [exec, execPfailAssertion, hpfail, hrest, restCondition]
  · intro hpfail; simp [exec, execPfailDeassertion, hpfail, hrest]
  · intro hlsel; simp [exec, execLselAssertion, hlsel, hrest, resetFrame]
  · intro bits hlsel hcut; simp [exec, execLselDeassertion, hlsel, hcut, hrest]

/-- What a state with everything at its reset values holds besides the lines. -/
theorem State.cleared_eq (s : State) :
    State.cleared s =
      { State.reset with
        lines := s.lines
        port := { State.reset.port with inFlight := none }
        power := restCondition s.lines.powered s.lines.pfail
        link := { State.reset.link with frame := resetFrame (s.lines.powered && s.lines.lsel) }
        mem := s.mem, freeCount := s.freeCount, pending := s.pending } := rfl

/-- The same with power applied: the power condition follows PFAIL, and a frame in progress is
ignored to its end (R124, R175). -/
theorem State.cleared_of_powered {s : State} (h : s.lines.powered = true) :
    State.cleared s =
      { State.reset with
        lines := s.lines
        port := { State.reset.port with inFlight := none }
        power := if s.lines.pfail then .safe else .normal
        link := { State.reset.link with frame := if s.lines.lsel then .ignored else .none }
        mem := s.mem, freeCount := s.freeCount, pending := s.pending } := by
  simp [State.cleared_eq, h, restCondition, resetFrame]

/-- Settles O32. -/
theorem bridgeCleared : Obligations.BridgeCleared := by
  refine ⟨fun n s s0 hpow hs0 => ?_, fun s s0 hclose => ?_, fun s hpow hrst => ?_⟩
  · subst hs0
    simp only [exec, execPowerLoss, hpow, if_true, State.cleared_eq]
    rfl
  · have hlines := hclose.lines_eq
    obtain ⟨hrun, rfl⟩ := hclose
    obtain ⟨hpow, hrst⟩ := s.running_iff.mp hrun
    have hpow' : (State.settle s).lines.powered = true := hlines ▸ hpow
    simp only [exec, execRstAssertion, hpow, hrst, if_true, Bool.false_eq_true, if_false]
    exact congrArg _ (State.cleared_of_powered (by exact hpow'))
  · simp [exec, execRstAssertion, hpow, hrst]

end Sys2Proof.Machine

/-! # Proofs: the lines out and the close of a moment (O18, O22) -/

namespace Sys2Proof.Machine

theorem GroupState.fails_iff (g : GroupState) :
    g.fails = true ↔ g = .recovering ∨ g = .unconfigured ∨ g = .halted := by
  cases g <;> simp [GroupState.fails]

/-- The byte LDO shifts once the answer stands. -/
theorem State.ldoByte_of_response {s : State} (hframe : s.link.frame = .answered)
    (hresp : s.link.response ≠ []) (k : Nat) :
    State.ldoByte s k =
      if k < s.link.fillers then 0x00 else s.link.response.getD (k - s.link.fillers) 0xFF := by
  simp [State.ldoByte, hframe, hresp]

theorem laneLow_iff (l : LaneSet) : laneLow l = decide (l = .low ∨ l = .both) := by
  cases l <;> rfl

theorem laneHigh_iff (l : LaneSet) : laneHigh l = decide (l = .high ∨ l = .both) := by
  cases l <;> rfl

theorem laneLow_or_laneHigh (l : LaneSet) :
    (laneLow l || laneHigh l) = decide (l ≠ .none) := by
  cases l <;> rfl

/-- The memory lines at a word of a write: the lanes of its lane set. -/
theorem State.memoryLines_of_write {s : State} {t : Transfer} {ws : List (LaneSet × Word)}
    {k : Nat} (ht : s.port.inFlight = some t) (hws : t.body = .write ws) (hk : k < ws.length) :
    State.memoryLines s k =
      { address := t.addr + k
        chipEnable := laneLow ws[k].1 || laneHigh ws[k].1
        outputEnable := false
        writeLow := laneLow ws[k].1
        writeHigh := laneHigh ws[k].1 } := by
  simp [State.memoryLines, ht, hws, hk, MemoryLines.inactive]

/-- Settles O18: the levels are the definitions of the lines, case by case. -/
theorem outputLevels : Obligations.OutputLevels := by
  refine ⟨fun s hpow => ?_, fun s => ?_, fun s => ?_, ⟨?_, ?_, ?_, ?_, ?_⟩, ?_, ?_, ?_⟩
  · simp [State.failLine, hpow, GroupState.fails_iff]
  · simp [State.intLine, maskEnables]
  · simp [State.safeLine]
  · intro n s h
    have hdriven : s.ldoDriven = false := by
      rcases h with h | h <;> simp [State.ldoDriven, h]
    simp [State.ldo, hdriven]
  · intro n s hpow hlsel
    simp [State.ldo, State.ldoDriven, hpow, hlsel]
  · intro k s hframe
    simp [State.ldoByte, hframe]
  · intro k s hframe hresp
    simp [State.ldoByte, hframe, hresp]
  · intro k s hframe hresp
    simp only [State.ldoByte_of_response hframe hresp]
    refine ⟨fun hk => if_pos hk, fun hk => ?_, fun hk => ?_⟩
    · simp [hk]
    · rw [if_neg (by omega), List.getD_eq_default _ _ (by omega)]
  · intro k s hfree
    simp [State.memoryLines, hfree, MemoryLines.inactive]
  · intro t n k s ht hbody hk
    simp [State.memoryLines, ht, hbody, hk, MemoryLines.inactive]
  · intro t ws k s ht hbody hk
    rw [State.memoryLines_of_write ht hbody hk, laneLow_or_laneHigh, laneLow_iff, laneHigh_iff,
      List.getD_eq_getElem _ _ hk]

/-- No age timeout is due (R19). -/
theorem State.takeAgeTimeout_of_not_due {s : State} (h : s.ageTimeoutDue = false) :
    State.takeAgeTimeout s = s := by
  simp [State.takeAgeTimeout, h]

/-- The age timeout is due in OPEN once the counter has reached a limit that is not 0 (R19). -/
theorem State.ageTimeoutDue_iff (s : State) :
    s.ageTimeoutDue = true ↔
      s.group.state = .groupOpen ∧ s.ageLimit ≠ 0 ∧ s.ageLimit ≤ s.group.age := by
  simp [State.ageTimeoutDue, and_assoc]

theorem State.ageTimeoutDue_eq_false_iff (s : State) :
    s.ageTimeoutDue = false ↔
      s.group.state ≠ .groupOpen ∨ s.ageLimit = 0 ∨ s.group.age < s.ageLimit := by
  rw [← Bool.not_eq_true, State.ageTimeoutDue_iff]
  by_cases s.group.state = .groupOpen <;> by_cases s.ageLimit = 0 <;> simp [*]

/-- No due scan can start while none is due, under PFAIL, or during a scan (R152). -/
theorem State.startDueScan_of_blocked {s : State}
    (h : s.scanner.due = false ∨ s.lines.pfail = true ∨ s.scanner.scan ≠ .none) :
    State.startDueScan s = s := by
  rcases h with h | h | h <;> simp [State.startDueScan, h]

theorem Requests.some_eq_false_iff (r : Requests) : r.some = false ↔ r = Requests.empty := by
  cases r
  simp [Requests.some, Requests.empty, and_assoc]

theorem Requests.some_iff (r : Requests) : r.some = true ↔ r ≠ Requests.empty := by
  rw [← Bool.not_eq_false, Ne, Requests.some_eq_false_iff]

theorem Requests.get_empty (q : Requester) : Requests.get Requests.empty q = none := by
  cases q <;> rfl

/-- With no request waiting there is nothing to grant. -/
theorem State.nextGrant_of_empty {s : State} (h : s.port.requests = Requests.empty) :
    s.nextGrant = none := by
  simp [State.nextGrant, h, Requests.get_empty]

/-- Nothing is granted while a transfer is in flight, no request waits, or a rollback is due. -/
theorem State.grant_of_blocked {s : State}
    (h : s.port.inFlight ≠ none ∨ s.port.requests = Requests.empty ∨
      ∃ g cause, s.journal.backward = .rollbackDue g cause) :
    State.grant s = s := by
  rcases h with h | h | h
  · simp [State.grant, State.portClosed, Option.isSome_iff_ne_none.mpr h]
  · simp [State.grant, State.nextGrant_of_empty h]
  · exact State.grant_rollbackDue (s.rollbackDue_iff.mpr h)

theorem State.accessIs_iff (s : State) (test : AccessPhase → Bool) :
    s.accessIs test = true ↔ ∃ a, s.host.access = some a ∧ test a.phase = true := by
  unfold State.accessIs
  split <;> simp_all

theorem AccessPhase.readPending_iff (p : AccessPhase) :
    p.readPending = true ↔ p = .readQueued ∨ p = .readRequested := by
  cases p <;> simp [AccessPhase.readPending]

theorem AccessPhase.isForming_eq_false_iff (p : AccessPhase) :
    p.isForming = false ↔ p ≠ .discarding ∧ ∀ post, p ≠ .forming post := by
  cases p <;> simp [AccessPhase.isForming]

theorem AccessPhase.isWaiting_eq_false_iff (p : AccessPhase) :
    p.isWaiting = false ↔ ∀ post, p ≠ .waiting post := by
  cases p <;> simp [AccessPhase.isWaiting]

theorem State.stateWorks_iff (s : State) :
    s.stateWorks = true ↔
      s.group.state = .opening ∨ s.group.state = .committing ∨ s.group.state = .rollingBack ∨
      s.group.state = .configuring ∨ (s.group.state = .recovering ∧ s.lines.rst = false) := by
  unfold State.stateWorks
  cases s.group.state <;> simp

/-- When the queue is quiet (R62). -/
theorem State.quiet_iff (s : State) :
    s.quiet = true ↔
      s.queue = [] ∧ ∀ a, s.host.access = some a →
        a.phase ≠ .discarding ∧ ∀ p, a.phase ≠ .forming p ∧ a.phase ≠ .waiting p := by
  cases h : s.host.access <;>
    simp [State.quiet, State.accessIs, h, AccessPhase.isForming_eq_false_iff,
      AccessPhase.isWaiting_eq_false_iff, and_assoc, forall_and]

/-- When memory work is pending (R117). -/
theorem State.workPending_iff (s : State) :
    s.workPending = true ↔
      s.port.inFlight ≠ none ∨ s.port.requests ≠ Requests.empty ∨ s.quiet = false ∨
      s.stateWorks = true ∨ s.accessIs AccessPhase.readPending = true := by
  simp [State.workPending, Requests.some_iff, Option.isSome_iff_ne_none, or_assoc]

/-- Settles O22. -/
theorem momentCloses : Obligations.MomentCloses := by
  refine ⟨fun s => rfl, fun s hage hscan hport => ?_, fun s => ?_, fun s => ?_,
    State.quiet_iff⟩
  · rw [State.settle, State.takeAgeTimeout_of_not_due (s.ageTimeoutDue_eq_false_iff.mpr hage),
      State.startDueScan_of_blocked hscan, State.grant_of_blocked hport]
  · simp [State.finish]
  · simp only [State.workPending_iff, State.stateWorks_iff, State.accessIs_iff,
      AccessPhase.readPending_iff, or_assoc]

end Sys2Proof.Machine

/-! # Proofs: the group controller (O23, O34, O35, O36) -/

namespace Sys2Proof.Machine

theorem State.raise_eq (e : Event) (s : State) :
    State.raise e s = { s with events.pendingSet := raiseIn e s.events.pendingSet } := rfl

theorem State.enter_eq (g : GroupState) (s : State) :
    State.enter g s = State.markRelease { s with group.state := g } := rfl

/-- Away from RECOVERING and CONFIGURING the scanner is left alone (R149). -/
theorem State.renewScanner_of_ne {s : State} (hr : s.group.state ≠ .recovering)
    (hc : s.group.state ≠ .configuring) : State.renewScanner s = s := by
  simp [State.renewScanner, hr, hc]

/-- The scanner at an entry to IDLE (R149). -/
theorem State.renewScanner_eq (s : State) :
    State.renewScanner s =
      { s with scanner :=
          if s.group.state = .recovering ∨ s.group.state = .configuring then
            { s.scanner with count := 0, last := none }
          else s.scanner } := by
  by_cases h : s.group.state = .recovering ∨ s.group.state = .configuring <;>
    simp [State.renewScanner, h]

theorem AccessPhase.markRelease_markRelease (p : AccessPhase) :
    p.markRelease.markRelease = p.markRelease := by
  cases p <;> rfl

/-- A second moment of release adds nothing to the first (R137). -/
theorem markRelease_twice (a : Option Access) :
    (a.map fun a => { a with phase := a.phase.markRelease }).map
        (fun a => { a with phase := a.phase.markRelease }) =
      a.map fun a => { a with phase := a.phase.markRelease } := by
  simp [Function.comp_def, AccessPhase.markRelease_markRelease]

/-- Entry to IDLE while GRP is low (R6). -/
theorem State.enterIdle_of_low {s : State} (h : s.lines.grp = false) :
    State.enterIdle s =
      State.enter .idle { State.renewScanner s with group.openPending := false } := by
  simp [State.enterIdle, h]

/-- Entry to IDLE while GRP is high goes on to OPENING (R6, R10). -/
theorem State.enterIdle_of_high {s : State} (h : s.lines.grp = true) :
    State.enterIdle s = State.enterOpening
      (State.enter .idle { State.renewScanner s with group.openPending := false }) := by
  simp [State.enterIdle, h]

/-- Settles O23. -/
theorem idleAndHaltedEntered : Obligations.IdleAndHaltedEntered := by
  refine ⟨fun s => ?_, fun cause offset s => by
    simp [State.haltJournal, State.enter_eq, State.raise_eq]⟩
  by_cases hgrp : s.lines.grp = true
  · simp only [State.enterIdle_of_high hgrp, State.renewScanner_eq, hgrp, if_true,
      State.enterOpening, State.enter, State.markRelease, markRelease_twice]
  · simp only [State.enterIdle_of_low (Bool.not_eq_true _ ▸ hgrp), State.renewScanner_eq, hgrp,
      State.enter, State.markRelease]
    rfl

/-- Settles O34: an edge is taken in the settled state, and each group state has its row. -/
theorem grpEdges : Obligations.GrpEdges := by
  refine ⟨fun s s0 hclose hgrp => ?_, fun s s0 hclose hgrp => ?_⟩
  · have hlow : s.lines.grp = false := hclose.lines_eq ▸ hgrp
    simp only [exec, execGrpRise, hlow, hclose.1, State.outside_of_closesTo hclose, if_true,
      Bool.false_eq_true, if_false, State.takeRise]
    cases s0.group.state <;> rfl
  · have hhigh : s.lines.grp = true := hclose.lines_eq ▸ hgrp
    simp only [exec, execGrpFall, hhigh, hclose.1, State.outside_of_closesTo hclose, if_true,
      State.takeFall]
    cases hstate : s0.group.state
    case aborted =>
      rw [State.enterIdle_of_low rfl, State.renewScanner_of_ne (by simp [hstate])
        (by simp [hstate])]
      rfl
    all_goals rfl

theorem GroupState.scannerWorks_iff (g : GroupState) :
    g.scannerWorks = true ↔
      g = .idle ∨ g = .opening ∨ g = .groupOpen ∨ g = .committing ∨ g = .rollingBack ∨
        g = .aborted := by
  cases g <;> simp [GroupState.scannerWorks]

/-- When the interval count counts a tick (R151). -/
theorem State.intervalCounts_iff (s : State) :
    s.intervalCounts = true ↔
      GroupState.scannerWorks s.group.state = true ∧ s.scanner.due = false ∧
        s.scanner.count < anchorScanInterval s.anchor.live ∧ s.scanner.scan ≠ .periodic := by
  simp [State.intervalCounts, and_assoc]

/-- Settles O35. -/
theorem tickEffect : Obligations.TickEffect := by
  intro s s0 hclose
  simp only [exec, execTick, State.outside_of_closesTo hclose, State.takeTick,
    State.intervalCounts_iff, GroupState.scannerWorks_iff, beq_iff_eq, Bool.and_eq_true,
    Bool.not_eq_true']

/-- Settles O36: ABORT_GROUP by the table of R14, AGE_TIMEOUT by whether the timeout is due. -/
theorem abortGroupAndAgeTimeout : Obligations.AbortGroupAndAgeTimeout := by
  refine ⟨fun s s0 hclose hframe => ?_, fun s hrun hopen hlimit hage => ?_,
    fun s hrun hnot => ?_⟩
  · refine (State.outside_of_closesTo hclose _).trans ?_
    rw [State.inFrame_of_awaiting hframe, State.takeAbortGroup]
    cases s0.group.state <;> rfl
  · refine (State.within_of_running hrun _).trans ?_
    have hdue : s.ageTimeoutDue = true := s.ageTimeoutDue_iff.mpr ⟨hopen, hlimit, hage⟩
    rw [State.takeAgeTimeout, if_pos hdue]
  · refine (State.within_of_running hrun _).trans ?_
    rw [State.takeAgeTimeout_of_not_due (s.ageTimeoutDue_eq_false_iff.mpr hnot)]

end Sys2Proof.Machine

/-! # Proofs: a group's opening, retirements, commit and rollback (O50, O51, O52) -/

namespace Sys2Proof.Machine

/-- OPENING ends with an abort pending: the group is rolled back with no images (R11, R66). -/
theorem State.leaveOpening_of_abort {s : State} (h : s.group.abortPending = true) :
    State.leaveOpening s =
      State.startRollback s.groupNumber .abortCmd 0
        (State.enter .rollingBack
          { s with group.abortPending := false, group.closePending := false,
                   group.openPending := false }) := by
  simp [State.leaveOpening, h]

/-- OPENING ends with a close pending: the group is committed (R11). -/
theorem State.leaveOpening_of_close {s : State} (ha : s.group.abortPending = false)
    (hc : s.group.closePending = true) :
    State.leaveOpening s =
      State.enterCommitting
        { s with group.abortPending := false, group.closePending := false } := by
  simp [State.leaveOpening, ha, hc]

/-- OPENING ends with nothing pending: the group is open (R11). -/
theorem State.leaveOpening_of_none {s : State} (ha : s.group.abortPending = false)
    (hc : s.group.closePending = false) :
    State.leaveOpening s =
      State.enter .groupOpen { s with group.abortPending := false, group.age := 0 } := by
  simp [State.leaveOpening, ha, hc]

/-- Settles O50: the three rows of R11 in turn; an abort starts a rollback of no images, whose first
request is the UNDONE record's. -/
theorem openingEnds : Obligations.OpeningEnds := by
  intro t s s0 h
  have hexec : exec .openRecordComplete s = .next (State.finish
      (State.leaveOpening { State.completed t s0 with journal.forward := none })) :=
    State.completion_of_completes h _
  refine ⟨fun habort => ⟨imageOffset 0, ?_⟩, fun habort hclose => ?_, fun habort hclose => ?_⟩
  · rw [hexec, State.leaveOpening_of_abort]
    · rfl
    · exact habort
  · rw [hexec, State.leaveOpening_of_close (hc := ?_), State.enterCommitting, State.enter_eq]
    · simp [habort]
    · exact habort
    · exact hclose
  · rw [hexec, State.leaveOpening_of_none (hc := ?_), State.enter_eq]
    · simp [habort]
    · exact habort
    · exact hclose

theorem State.highWater_of_header {s : State} {h : Header} (hh : s.journal.header = some h) :
    s.highWater = h.highWater := by
  simp [State.highWater, hh]

theorem State.groupNumber_of_header {s : State} {h : Header} (hh : s.journal.header = some h) :
    s.groupNumber = h.group := by
  simp [State.groupNumber, hh]

/-- A header write has completed: the header it carried is the current one (R25, R26). -/
theorem State.headerWritten_of_slotWriting {s : State} {h : Header}
    (hw : s.journal.slotWriting = some h) :
    State.headerWritten s =
      { s with journal.header := some h, journal.slotWriting := none } := by
  simp [State.headerWritten, hw]

/-- COMMITTING ends with an open pending (R13). -/
theorem State.leaveCommitting_of_open {s : State} (h : s.group.openPending = true) :
    State.leaveCommitting s =
      State.enterOpening { s with group.openPending := false } := by
  simp [State.leaveCommitting, h]

/-- COMMITTING ends with no open pending (R13). -/
theorem State.leaveCommitting_of_not_open {s : State} (h : ¬ s.group.openPending = true) :
    State.leaveCommitting s = State.enterIdle s := by
  simp [State.leaveCommitting, h]

/-- Settles O51: each completion goes on as the arm of its command says. -/
theorem commitAndRetirement : Obligations.CommitAndRetirement := by
  refine ⟨⟨?_, ?_, ?_, ?_⟩, ?_, ?_⟩
  · intro t e s s0 h hretire
    refine State.completion_eq h ?_
    simp only [State.completed_journal, hretire]
    rfl
  · intro t e s s0 h hretire
    refine State.completion_eq h ?_
    simp only [State.completed_journal, hretire]
  · intro t e removed s s0 h hretire
    refine State.completion_eq h ?_
    simp only [State.completed_journal, hretire]
    cases removed <;> rfl
  · intro t e rest s s0 h hqueue
    refine State.completion_eq h ?_
    simp only [State.completed_queue, hqueue, List.drop_succ_cons, List.drop_zero]
  · intro t hd s s0 h hheader
    refine State.completion_eq h ?_
    rw [State.groupNumber_of_header (s := State.completed t s0) hheader,
      State.highWater_of_header (s := State.completed t s0) hheader]
    rfl
  · intro t hd s s0 h hwriting
    refine State.completion_eq h ?_
    rw [State.headerWritten_of_slotWriting (s := State.completed t s0) hwriting]
    by_cases hopen : s0.group.openPending = true
    · rw [if_pos hopen]
      exact State.leaveCommitting_of_open hopen
    · rw [if_neg hopen]
      exact State.leaveCommitting_of_not_open hopen

/-- The rollback that is due starts once no transfer of the forward activity is in flight (R67). -/
theorem exec_backwardActivityStart {s : State} {g : Nat} {cause : Cause}
    (hrun : s.running = true) (hdue : s.journal.backward = .rollbackDue g cause) :
    exec .backwardActivityStart s = .next (State.finish
      (if s.inFlightFor .forward then s
       else State.startRollback g cause s.journal.written s)) := by
  simp only [exec, execBackwardActivityStart, State.within_of_running hrun, hdue]

/-- The start of a rollback of at least one image: the newest record is read (R67). -/
theorem State.startRollback_of_pos {w : Nat} (hw : 0 < w) (g : Nat) (cause : Cause) (s : State) :
    State.startRollback g cause w s =
      State.requestJournalRead .imageRead (imageOffset (w - 1)) 8
        { s with
          journal.backward := .restoring
            { group := g, cause := cause, total := w, next := imageOffset (w - 1),
              restored := 0 } } := by
  simp [State.startRollback, Nat.ne_of_gt hw]

end Sys2Proof.Machine

/-! # Proofs: what every operation keeps of the counters, the response and a due rollback

One relation for two statements: O16 needs the counters (R18, R19, R149) and the sum of the response
part (R167) to stay in range, and R70 (O52) that nothing starts in the port while a rollback is due.
Every operation but the abort itself holds to both, and a meaning is a chain of operations, so each
rule takes what was reached before the operation to what is reached after it. -/

namespace Sys2Proof.Machine

/-- From `s` to `t` the counters and the response part stay in range. -/
def State.keepsRanges (s t : State) : Prop :=
  (s.countersFit → t.countersFit) ∧ (s.responseSound → t.responseSound)

/-- From `s` to `t` no rollback has fallen due, and with one due no transfer has started (R70). -/
def State.startsNothing (s t : State) : Prop :=
  t.rollbackDue = true → s.rollbackDue = true ∧
    (t.port.inFlight = s.port.inFlight ∨ t.port.inFlight = none)

/-- From `s` to `t` both hold. -/
def State.restrained (s t : State) : Prop := s.keepsRanges t ∧ s.startsNothing t

section
variable {s s' : State}

theorem State.keepsRanges.trans {t : State} (h : s.keepsRanges s') (h' : s'.keepsRanges t) :
    s.keepsRanges t :=
  ⟨h'.1 ∘ h.1, h'.2 ∘ h.2⟩

theorem State.restrained.refl (s : State) : s.restrained s :=
  ⟨⟨id, id⟩, fun hdue => ⟨hdue, .inl rfl⟩⟩

theorem State.startsNothing.trans {t : State} (h : s.startsNothing s') (h' : s'.startsNothing t) :
    s.startsNothing t := by
  intro hdue
  obtain ⟨hmid, hport'⟩ := h' hdue
  obtain ⟨hstart, hport⟩ := h hmid
  refine ⟨hstart, ?_⟩
  rcases hport' with hport' | hport'
  · rwa [hport']
  · exact .inr hport'

theorem State.restrained.trans {t : State} (h : s.restrained s') (h' : s'.restrained t) :
    s.restrained t :=
  ⟨h.1.trans h'.1, h.2.trans h'.2⟩

/-! ## The ways an operation can go on -/

/-- Counters that do not rise stay in range. -/
theorem State.restrained.counts {t : State} (h : s.restrained s')
    (hage : t.group.age ≤ s'.group.age) (hduration : t.group.duration ≤ s'.group.duration)
    (hcount : t.scanner.count ≤ s'.scanner.count)
    (hrest : t.link = s'.link ∧ t.port.inFlight = s'.port.inFlight ∧
      t.journal.backward = s'.journal.backward) :
    s.restrained t := by
  obtain ⟨hlink, hport, hback⟩ := hrest
  refine h.trans ⟨⟨fun ⟨ha, hd, hc⟩ => ⟨by omega, by omega, by omega⟩, ?_⟩, ?_⟩
  · simp [State.responseSound, hlink]
  · simp [State.startsNothing, State.rollbackDue, hback, hport]

/-- A new response part that sums to 5Ah, or none at all. -/
theorem State.restrained.response {t : State} (h : s.restrained s') (hsound : t.responseSound)
    (hrest : t.group = s'.group ∧ t.scanner = s'.scanner ∧ t.port = s'.port ∧
      t.journal.backward = s'.journal.backward) : s.restrained t := by
  obtain ⟨hgroup, hscanner, hport, hback⟩ := hrest
  refine h.trans ⟨⟨?_, fun _ => hsound⟩, ?_⟩
  · simp [State.countersFit, hgroup, hscanner]
  · simp [State.startsNothing, State.rollbackDue, hback, hport]

/-- With no rollback due at the end, nothing is asked of the port. -/
theorem State.restrained.notDue {t : State} (h : s.restrained s') (hranges : s'.keepsRanges t)
    (hdue : t.rollbackDue = false) : s.restrained t :=
  ⟨h.1.trans hranges, fun ht => absurd ht (by simp [hdue])⟩

/-- The transfer in flight has completed. -/
theorem State.restrained.portFreed (h : s.restrained s') (m : Memory) :
    s.restrained { s' with port.inFlight := none, mem := m } :=
  ⟨h.1, fun hdue => ⟨(h.2 hdue).1, .inr rfl⟩⟩

/-- Either branch of a condition. -/
theorem State.restrained.ite {c : Prop} {_ : Decidable c} {a b : State} (ha : s.restrained a)
    (hb : s.restrained b) : s.restrained (if c then a else b) := by
  split
  · exact ha
  · exact hb

/-! ## Requests and grants -/

theorem State.restrained.grant (h : s.restrained s') : s.restrained (State.grant s') := by
  rcases State.grant_cases s' with heq | ⟨q, -, hdue, -, heq⟩
  · rwa [heq]
  · rw [heq]
    exact h.notDue ⟨id, id⟩ hdue

theorem State.restrained.request (h : s.restrained s') (t : Transfer) :
    s.restrained (State.request t s') := by
  rcases State.request_cases t s' with ⟨-, hdue, heq⟩ | heq
  · rw [heq]
    exact h.notDue ⟨id, id⟩ hdue
  · rw [heq]
    exact h

theorem State.restrained.requestJournalWrite (h : s.restrained s') (p : Purpose) (o : Nat)
    (ws : List Word) : s.restrained (State.requestJournalWrite p o ws s') := h.request _

theorem State.restrained.requestJournalRead (h : s.restrained s') (p : Purpose) (o n : Nat) :
    s.restrained (State.requestJournalRead p o n s') := h.request _

theorem State.restrained.requestHeader (h : s.restrained s') (p : Purpose) (g hw : Nat) :
    s.restrained (State.requestHeader p g hw s') := by
  unfold State.requestHeader
  split
  · dsimp only
    exact .requestJournalWrite (by exact h) _ _ _
  · exact h

/-! ## Changes of the group state -/

theorem State.restrained.enterOpening (h : s.restrained s') :
    s.restrained (State.enterOpening s') :=
  .counts h le_rfl (Nat.zero_le _) le_rfl ⟨rfl, rfl, rfl⟩

theorem State.restrained.renewScanner (h : s.restrained s') :
    s.restrained (State.renewScanner s') :=
  .ite (.counts h le_rfl le_rfl (Nat.zero_le _) ⟨rfl, rfl, rfl⟩) h

theorem State.restrained.enterIdle (h : s.restrained s') : s.restrained (State.enterIdle s') :=
  .ite (.enterOpening (.renewScanner h)) (.renewScanner h)

theorem State.restrained.finish (h : s.restrained s') : s.restrained (State.finish s') := .ite h h

/-! ## Scans -/

theorem State.restrained.requestScanRead (h : s.restrained s') :
    s.restrained (State.requestScanRead s') := .ite h (.request h _)

theorem State.restrained.startScan (h : s.restrained s') (kind : ScanKind) (region : Nat) :
    s.restrained (State.startScan kind region s') := by
  unfold State.startScan
  dsimp only
  exact .requestScanRead h

theorem State.restrained.abandonScan (h : s.restrained s') :
    s.restrained (State.abandonScan s') := .ite h h

theorem State.restrained.idleScanner (h : s.restrained s') :
    s.restrained (State.idleScanner s') :=
  .counts (.abandonScan h) le_rfl le_rfl (Nat.zero_le _) ⟨rfl, rfl, rfl⟩

theorem State.restrained.startDueScan (h : s.restrained s') :
    s.restrained (State.startDueScan s') := by
  unfold State.startDueScan
  refine .ite ?_ h
  split
  · exact .startScan (by exact h) _ _
  · exact h

/-! ## The backward activity, HALTED and reset -/

/-- The backward activity takes up anything but a rollback that is due. -/
theorem State.restrained.backward (h : s.restrained s') (b : Backward)
    (hb : ∀ g cause, b ≠ .rollbackDue g cause) :
    s.restrained { s' with journal.backward := b } := by
  refine h.notDue ⟨id, id⟩ ?_
  cases b with
  | rollbackDue g cause => exact absurd rfl (hb g cause)
  | _ => rfl

theorem State.restrained.haltJournal (h : s.restrained s') (cause : UnreadableCause)
    (offset : Nat) : s.restrained (State.haltJournal cause offset s') :=
  .backward (.idleScanner h) .idle nofun

theorem State.restrained.requestUndone (h : s.restrained s') (r : Rollback) :
    s.restrained (State.requestUndone r s') :=
  .requestJournalWrite (.backward h (.restoring r) nofun) _ _ _

theorem State.restrained.startRollback (h : s.restrained s') (g : Nat) (cause : Cause) (w : Nat) :
    s.restrained (State.startRollback g cause w s') :=
  .ite (.requestUndone h _) (.requestJournalRead (by exact .backward h (.restoring _) nofun) _ _ _)

theorem State.restrained.finishRecovery (h : s.restrained s') :
    s.restrained (State.finishRecovery s') :=
  .enterIdle (.backward h .idle nofun)

theorem State.responseSound_of_nil {t : State} (h : t.link.response = []) : t.responseSound :=
  fun hne => absurd h hne

/-- At its reset values a bridge has no counter running, no response part and no rollback due. -/
theorem State.restrained.cleared (s t : State) : s.restrained (State.cleared t) :=
  ⟨⟨fun _ => ⟨Nat.zero_le _, Nat.zero_le _, Nat.zero_le _⟩,
    fun _ => State.responseSound_of_nil rfl⟩, fun hdue : false = true => nomatch hdue⟩

theorem State.restrained.startUp (s t : State) (straps : BitVec 2) :
    s.restrained (State.startUp straps t) :=
  .request (.trans (.cleared s t) (.refl _)) _

/-! ## The link -/

theorem byteSum_append_checkByte (bs : List Byte) :
    byteSum (bs ++ [checkByte bs]) = Config.frameSum := by
  simp [byteSum, checkByte]

/-- A response part sums to 5Ah (R167). -/
theorem State.restrained.respond (h : s.restrained s') (st : LinkStatus) (data : List Byte) :
    s.restrained (State.respond st data s') :=
  .response h (fun _ => byteSum_append_checkByte _) ⟨rfl, rfl, rfl, rfl⟩

theorem State.restrained.respondAfterFiller (h : s.restrained s') (st : LinkStatus)
    (data : List Byte) : s.restrained (State.respondAfterFiller st data s') :=
  .response (.respond h st data) (fun _ => byteSum_append_checkByte _) ⟨rfl, rfl, rfl, rfl⟩

theorem State.restrained.answer (h : s.restrained s') (i : Instr) (st : LinkStatus)
    (data : List Byte) : s.restrained (State.answer i st data s') :=
  .respond h _ _

theorem State.restrained.answerInvalid (h : s.restrained s') (i : Instr) (r : InvalidReason) :
    s.restrained (State.answerInvalid i r s') :=
  .respond h _ _

theorem State.restrained.settleReadStatus (h : s.restrained s') (st : LinkStatus) :
    s.restrained (State.settleReadStatus st s') := .ite h h

theorem State.restrained.endLinkRead (h : s.restrained s') (st : LinkStatus) (data : List Byte) :
    s.restrained (State.endLinkRead st data s') := by
  unfold State.endLinkRead
  dsimp only
  split
  · exact .respondAfterFiller (.settleReadStatus (by exact h) st) st data
  · exact .settleReadStatus (by exact h) st

theorem State.restrained.endFrame (h : s.restrained s') (received : List Byte) :
    s.restrained (State.endFrame received s') :=
  have hcut := h.response (t := { s' with link.response := [] }) (State.responseSound_of_nil rfl)
    ⟨rfl, rfl, rfl, rfl⟩
  .ite hcut hcut

theorem State.restrained.takeNextEvent (h : s.restrained s') :
    s.restrained (State.takeNextEvent s') := by
  unfold State.takeNextEvent
  split <;> exact .answer h _ _ _

theorem State.restrained.takeSetMask (h : s.restrained s') (mask : Word) :
    s.restrained (State.takeSetMask mask s') := .ite (.answer h _ _ _) (.answer h _ _ _)

theorem State.restrained.takeCopyRead (h : s.restrained s') (i : Instr) (copy : List Word)
    (offset count : Byte) : s.restrained (State.takeCopyRead i copy offset count s') :=
  .ite (.answer h _ _ _) (.ite (.answer h _ _ _) (.answerInvalid h _ _))

theorem State.restrained.takeStage (h : s.restrained s') (offset count : Byte)
    (words : List Word) : s.restrained (State.takeStage offset count words s') :=
  .ite (.answer h _ _ _) (.ite (.answer h _ _ _) (.answerInvalid h _ _))

theorem State.restrained.takeCopyLive (h : s.restrained s') :
    s.restrained (State.takeCopyLive s') := .ite (.answer h _ _ _) (.answer h _ _ _)

theorem State.restrained.takeReadJournal (h : s.restrained s') (offset : Word) (count : Byte) :
    s.restrained (State.takeReadJournal offset count s') :=
  have hheard := h.response (t := { s' with link.response := [] }) (State.responseSound_of_nil rfl)
    ⟨rfl, rfl, rfl, rfl⟩
  .ite (.answer h _ _ _) (.ite (.answer h _ _ _) (.ite (.answerInvalid h _ _)
    (.ite (.answerInvalid h _ _) (.requestJournalRead (by exact hheard) _ _ _))))

/-! ## The group controller and PFAIL -/

theorem State.restrained.takeRise (h : s.restrained s') : s.restrained (State.takeRise s') := by
  unfold State.takeRise
  cases s'.group.state
  case idle => exact .enterOpening h
  all_goals exact h

theorem State.restrained.takeFall (h : s.restrained s') : s.restrained (State.takeFall s') := by
  unfold State.takeFall
  cases s'.group.state
  case aborted => exact .enterIdle h
  all_goals exact h

/-- A tick raises a counter at its limit no further: 65535 for the age and the duration (R18, R19),
the scan interval for the interval count (R151). -/
theorem State.takeTick_countersFit (h : s.countersFit) : (State.takeTick s).countersFit := by
  obtain ⟨hage, hduration, hcount⟩ := h
  have hinterval : anchorScanInterval s.anchor.live < 65536 := BitVec.isLt _
  refine ⟨?_, ?_, ?_⟩
  · simp only [State.takeTick]
    split <;> omega
  · simp only [State.takeTick]
    split <;> omega
  · simp only [State.takeTick, State.intervalCounts_iff]
    split <;> omega

theorem State.restrained.takeTick (h : s.restrained s') : s.restrained (State.takeTick s') :=
  h.trans ⟨⟨State.takeTick_countersFit, id⟩, fun hdue => ⟨hdue, .inl rfl⟩⟩

theorem State.restrained.powerFailAccess (h : s.restrained s') :
    s.restrained (State.powerFailAccess s') := by
  unfold State.powerFailAccess
  split
  · exact h
  · split
    all_goals exact h

theorem State.restrained.powerFailScan (h : s.restrained s') :
    s.restrained (State.powerFailScan s') :=
  .counts (.abandonScan h) le_rfl le_rfl le_rfl ⟨rfl, rfl, rfl⟩

theorem State.restrained.powerFailLink (h : s.restrained s') :
    s.restrained (State.powerFailLink s') := by
  unfold State.powerFailLink
  split
  · exact .endLinkRead (by exact h) _ _
  · exact h

/-! ## The host bus port -/

theorem State.restrained.reserve (h : s.restrained s') (a : Access) :
    s.restrained (State.reserve a s') := .ite h (.ite h h)

theorem State.restrained.requestHostRead (h : s.restrained s') (a : Access) :
    s.restrained (State.requestHostRead a s') :=
  .request (by exact h) _

theorem State.restrained.classify (h : s.restrained s') (a : Access) :
    s.restrained (State.classify a s') := by
  unfold State.classify
  cases State.verdict a s' with
  | refuse reason => exact h
  | hold => exact h
  | serve => exact .ite h (.requestHostRead h a)
  | postPlain => exact .ite h h
  | postGroup => exact .ite h (.reserve h a)

theorem State.restrained.formingPhase (h : s.restrained s') (a : Access) (p : Post) (d : Word) :
    s.restrained (State.formingPhase a p d s') := .ite h h

theorem State.restrained.earlyPhase (h : s.restrained s') (a : Access) :
    s.restrained (State.earlyPhase a s') := by
  unfold State.earlyPhase
  split
  · exact .ite (.ite h h) h
  · exact h

theorem State.restrained.takeDataPhase (h : s.restrained s') (d : Word) :
    s.restrained (State.takeDataPhase d s') := by
  unfold State.takeDataPhase
  split
  · exact h
  · rename_i a _
    cases a.phase
    case forming => exact .formingPhase h _ _ _
    case readRequested => exact .earlyPhase h _
    all_goals exact h

/-! ## Start-up and recovery -/

theorem State.restrained.endAnchorLoad (h : s.restrained s') :
    s.restrained (State.endAnchorLoad s') := by
  unfold State.endAnchorLoad
  split
  · exact .requestJournalRead (by exact .backward h .headerChoice nofun) _ _ _
  · exact h

theorem State.restrained.loadReads (h : s.restrained s') (reads : Nat) :
    s.restrained (State.loadReads reads s') := by
  induction reads generalizing s' with
  | zero => exact h
  | succ reads ih =>
    unfold State.loadReads
    dsimp only
    split
    · split
      · have hfree := h.portFreed s'.mem
        split
        · exact ih (.grant (.request (by exact hfree) _))
        · exact .endAnchorLoad (by exact hfree)
      · exact h
    · exact h

theorem State.restrained.requestWalk (h : s.restrained s') (position : Nat) (blocks : List Nat) :
    s.restrained (State.requestWalk position blocks s') :=
  .requestJournalRead (.backward h (.walk _ _) nofun) _ _ _

theorem State.restrained.runClosed (h : s.restrained s') (walkEnd : Nat) :
    s.restrained (State.runClosed walkEnd s') := .ite (.backward h .idle nofun) (.finishRecovery h)

theorem State.restrained.runOpen (h : s.restrained s') (blocks : List Nat) :
    s.restrained (State.runOpen blocks s') := by
  unfold State.runOpen
  split
  · exact .haltJournal h _ _
  · exact .startRollback h _ _ _

theorem State.restrained.walkStops (h : s.restrained s') (position : Nat) (blocks : List Nat) :
    s.restrained (State.walkStops position blocks s') := .ite (.finishRecovery h) (.runOpen h _)

theorem State.restrained.walkOn (h : s.restrained s') (position : Nat) (blocks : List Nat) :
    s.restrained (State.walkOn position blocks s') := .ite (.runOpen h _) (.requestWalk h _ _)

/-! ## The scanner -/

theorem State.restrained.takeScanRegion (h : s.restrained s') (index : Byte) :
    s.restrained (State.takeScanRegion index s') :=
  .ite (.answer h _ _ _) (.ite (.answerInvalid h _ _) (.ite (.answerInvalid h _ _)
    (.answer (.startScan h _ _) _ _ _)))

theorem State.restrained.takeExpiry (h : s.restrained s') :
    s.restrained (State.takeExpiry s') := by
  unfold State.takeExpiry
  split
  · exact .counts h le_rfl le_rfl (Nat.zero_le _) ⟨rfl, rfl, rfl⟩
  · exact .ite h (.startScan h _ _)

theorem State.restrained.endPeriodicScan (h : s.restrained s') :
    s.restrained (State.endPeriodicScan s') :=
  have hended := h.counts (t := { s' with scanner.count := 0 }) le_rfl le_rfl (Nat.zero_le _)
    ⟨rfl, rfl, rfl⟩
  .ite hended hended

theorem State.restrained.endRequestedScan (h : s.restrained s') :
    s.restrained (State.endRequestedScan s') := h

theorem State.restrained.foldScanRead (h : s.restrained s') (ws : List Word) :
    s.restrained (State.foldScanRead ws s') := by
  unfold State.foldScanRead
  cases s'.scanner.scan with
  | none => exact h
  | periodic => exact .ite (.endPeriodicScan (by exact h)) (.requestScanRead (by exact h))
  | onRequest => exact .ite (.endRequestedScan (by exact h)) (.requestScanRead (by exact h))

/-! ## The forward activity -/

theorem State.restrained.requestDataWrite (h : s.restrained s') (e : Entry) :
    s.restrained (State.requestDataWrite e s') := .request h _

theorem State.restrained.takeHead (h : s.restrained s') : s.restrained (State.takeHead s') := by
  unfold State.takeHead
  split
  · exact h
  · exact .ite (.request (by exact h) _) (.requestDataWrite (by exact h) _)

theorem State.restrained.wipeStep (h : s.restrained s') (next : Nat) :
    s.restrained (State.wipeStep next s') :=
  .ite (.requestHeader (by exact h) _ _ _) (.requestJournalWrite (by exact h) _ _ _)

theorem State.restrained.requestFormat (h : s.restrained s') (k : Nat) :
    s.restrained (State.requestFormat k s') := .request (by exact h) _

theorem State.restrained.beginGroupWork (h : s.restrained s') (w : GroupWork) :
    s.restrained (State.beginGroupWork w s') := by
  unfold State.beginGroupWork
  cases w with
  | format => exact .requestFormat (by exact h) 0
  | opening =>
    dsimp only
    split
    · exact h
    · exact .ite (.wipeStep (by exact h) _) (.requestHeader (by exact h) _ _ _)
  | commit =>
    dsimp only
    split
    · exact h
    · exact .requestJournalWrite (by exact h) _ _ _
  | closeRollback | recoveryRewrite | closeRecovery =>
    dsimp only
    split
    · exact h
    · exact .requestHeader (by exact h) _ _ _

theorem State.restrained.leaveOpening (h : s.restrained s') :
    s.restrained (State.leaveOpening s') :=
  .ite (.startRollback (by exact h) _ _ _)
    (.ite h (.counts h (Nat.zero_le _) le_rfl le_rfl ⟨rfl, rfl, rfl⟩))

theorem State.restrained.leaveCommitting (h : s.restrained s') :
    s.restrained (State.leaveCommitting s') := .ite (.enterOpening (by exact h)) (.enterIdle h)

theorem State.restrained.leaveRollback (h : s.restrained s') :
    s.restrained (State.leaveRollback s') := .ite h (.enterIdle h)

/-! ## The work of CONFIGURING -/

theorem State.restrained.enterConfiguring (h : s.restrained s') (job : ConfigJob) :
    s.restrained (State.enterConfiguring job s') := .idleScanner h

theorem State.restrained.takeStoreAnchor (h : s.restrained s') :
    s.restrained (State.takeStoreAnchor s') := by
  unfold State.takeStoreAnchor
  split
  · split
    · exact .answerInvalid h _ _
    · exact .answer (.enterConfiguring h _) _ _ _
  · exact .answer h _ _ _

theorem State.restrained.takeFormat (h : s.restrained s') :
    s.restrained (State.takeFormat s') :=
  .ite (.answer (.enterConfiguring (by exact h) _) _ _ _) (.answer h _ _ _)

theorem State.restrained.requestAnchorWrite (h : s.restrained s') (j : ConfigJob) (k : Nat) :
    s.restrained (State.requestAnchorWrite j k s') := .request (by exact h) _

theorem State.restrained.beginAnchorWrite (h : s.restrained s') (j : ConfigJob) :
    s.restrained (State.beginAnchorWrite j s') :=
  .requestAnchorWrite (by exact h) _ _

theorem State.restrained.requestSlotClear (h : s.restrained s') (j : ConfigJob) :
    s.restrained (State.requestSlotClear j s') := .request (by exact h) _

theorem State.restrained.switchAnchor (h : s.restrained s') (j : ConfigJob) :
    s.restrained (State.switchAnchor j s') := by
  unfold State.switchAnchor State.switchTimeBase
  split <;> exact .enterIdle (by exact h)

theorem State.restrained.endFormat (h : s.restrained s') :
    s.restrained (State.endFormat s') := by
  unfold State.endFormat
  dsimp only
  split
  · exact .ite (.switchAnchor (by exact h) _) (.enterIdle (by exact h))
  · exact h

end
end Sys2Proof.Machine

/-! # Proofs: the counters, the response part and a due rollback over every command (O16, O52) -/

namespace Sys2Proof.Machine

/-! ## The abort and the close of a moment -/

@[simp] theorem State.enter_group (g : GroupState) (s : State) :
    (State.enter g s).group = { s.group with state := g } := rfl

theorem State.takeAbort_keepsRanges (cause : Cause) (s : State) :
    s.keepsRanges (State.takeAbort cause s) := by
  simp [State.keepsRanges, State.countersFit, State.responseSound, State.takeAbort]

/-- An abort withdraws a request at most; it makes none. -/
theorem State.takeAbort_inFlight (cause : Cause) (s : State) :
    (State.takeAbort cause s).port.inFlight = s.port.inFlight := by
  simp only [State.takeAbort, State.enter_port, State.abortForward]
  (repeat' split) <;> rfl

theorem State.takeAbort_rollbackDue (cause : Cause) (s : State) :
    (State.takeAbort cause s).rollbackDue = true := rfl

theorem State.takeAgeTimeout_keepsRanges (s : State) :
    s.keepsRanges (State.takeAgeTimeout s) := by
  unfold State.takeAgeTimeout
  split
  · exact State.takeAbort_keepsRanges _ _
  · exact (State.restrained.refl s).1

theorem State.takeAgeTimeout_inFlight (s : State) :
    (State.takeAgeTimeout s).port.inFlight = s.port.inFlight := by
  unfold State.takeAgeTimeout
  split
  · exact State.takeAbort_inFlight _ _
  · rfl

/-- After the age timeout the close of a moment only starts a due scan and grants. -/
theorem State.settle_restrained (s : State) :
    (State.takeAgeTimeout s).restrained (State.settle s) :=
  .grant (.startDueScan (.refl _))

theorem State.settle_keepsRanges (s : State) : s.keepsRanges (State.settle s) :=
  (State.takeAgeTimeout_keepsRanges s).trans (State.settle_restrained s).1

/-- The close of a moment leaves a due rollback due and starts nothing before it (R70). -/
theorem State.settle_of_rollbackDue {s : State} (h : s.rollbackDue = true) :
    (State.settle s).rollbackDue = true ∧
      ((State.settle s).port.inFlight = s.port.inFlight ∨
        (State.settle s).port.inFlight = none) := by
  have hdue : (State.takeAgeTimeout s).rollbackDue = true := by
    unfold State.takeAgeTimeout
    split
    · exact State.takeAbort_rollbackDue _ _
    · exact h
  have hsettled : (State.settle s).rollbackDue = true := by
    simpa [State.rollbackDue, State.settle] using hdue
  exact ⟨hsettled, State.takeAgeTimeout_inFlight s ▸ ((State.settle_restrained s).2 hsettled).2⟩

/-! ## The forms a meaning has -/

/-- A command sent in `s` is taken in `s` or in the state in which its moment has closed. -/
def State.takenIn (s s0 : State) : Prop := s0 = s ∨ s0 = State.settle s

/-- What a command sent in `s` leads to, when its meaning is a chain of restrained operations. -/
def State.ledTo (s t : State) : Prop := ∃ s0, s.takenIn s0 ∧ s0.restrained t

theorem State.ledTo_of_next {s s' t : State}
    (he : (Host.Outcome.next s' : Host.Outcome State Fault Refusal) = .next t)
    (h : s.restrained s') : s.ledTo t := by
  obtain rfl := Host.Outcome.next.inj he
  exact ⟨s, .inl rfl, h⟩

theorem State.outside_ledTo {f : State → State} {s t : State}
    (he : State.outside f s = .next t) (hf : ∀ s : State, s.restrained (f s)) : s.ledTo t := by
  obtain rfl := State.outside_eq_next.mp he
  split
  · exact ⟨_, .inr rfl, (hf _).finish⟩
  · exact ⟨s, .inl rfl, .refl s⟩

theorem State.within_ledTo {f : State → State} {s t : State}
    (he : State.within f s = .next t) (hf : ∀ s : State, s.restrained (f s)) : s.ledTo t := by
  obtain rfl := State.within_eq_next.mp he
  split
  · exact ⟨s, .inl rfl, (hf s).finish⟩
  · exact ⟨s, .inl rfl, .refl s⟩

/-- A link command: nothing outside an awaiting frame. -/
theorem State.link_ledTo {f : State → State} {s t : State}
    (he : State.outside (State.inFrame f) s = .next t) (hf : ∀ s : State, s.restrained (f s)) :
    s.ledTo t := by
  refine State.outside_ledTo he fun s => ?_
  unfold State.inFrame
  split
  · exact hf s
  · exact .refl s

/-- A completion: nothing for another purpose, and else its owner goes on with the port free. -/
theorem State.completion_ledTo {p : Purpose} {after : Transfer → List Word → State → State}
    {s t : State} (he : State.outside (State.complete p after) s = .next t)
    (hafter : ∀ tr ws (s : State), s.restrained (after tr ws s)) : s.ledTo t := by
  refine State.outside_ledTo he fun s => ?_
  rcases State.complete_cases p after s with ⟨tr, -, -, heq⟩ | ⟨-, heq⟩
  · rw [heq]
    exact ((State.restrained.refl s).portFreed _).trans (hafter _ _ _)
  · rw [heq]
    exact .refl s

/-! ## The commands -/

/-- The commands of the supply and of the lines. -/
theorem exec_ledTo_of_lineEvent {c : Instr} {s t : State} (hline : isLineEvent c = true)
    (he : exec c s = .next t) : s.ledTo t := by
  cases c <;> simp only [isLineEvent, Bool.false_eq_true] at hline
  case powerOn straps =>
    exact State.ledTo_of_next he (.ite (.refl s) (.ite (.cleared s _) (.startUp s _ straps)))
  case powerLoss => exact State.ledTo_of_next he (.ite (.cleared s _) (.refl s))
  case rstAssertion =>
    exact State.ledTo_of_next he (.ite (.refl s) (.ite (.cleared s _) (.refl s)))
  case rstRelease straps =>
    exact State.ledTo_of_next he (.ite (.ite (.startUp s _ straps) (.refl s)) (.refl s))
  case grpRise =>
    simp only [exec, execGrpRise] at he
    split at he
    · exact State.ledTo_of_next he (.refl s)
    · split at he
      · exact State.outside_ledTo he fun s => .takeRise (by exact .refl s)
      · exact State.ledTo_of_next he (.refl s)
  case grpFall =>
    simp only [exec, execGrpFall] at he
    split at he
    · split at he
      · exact State.outside_ledTo he fun s => .takeFall (by exact .refl s)
      · exact State.ledTo_of_next he (.refl s)
    · exact State.ledTo_of_next he (.refl s)
  case pfailAssertion =>
    obtain rfl := Host.Outcome.next.inj he
    split
    · exact ⟨s, .inl rfl, .refl s⟩
    · split
      · exact ⟨_, .inr rfl,
          .powerFailLink (.powerFailScan (.powerFailAccess (by exact .refl (State.settle s))))⟩
      · exact ⟨s, .inl rfl, .refl s⟩
  case pfailDeassertion =>
    obtain rfl := Host.Outcome.next.inj he
    split
    · split
      · exact ⟨_, .inr rfl, .refl (State.settle s)⟩
      · exact ⟨s, .inl rfl, .refl s⟩
    · exact ⟨s, .inl rfl, .refl s⟩
  case lselAssertion =>
    simp only [exec, execLselAssertion] at he
    split at he
    · exact State.ledTo_of_next he (.refl s)
    · split at he
      · exact State.outside_ledTo he fun s => .refl s
      · exact State.ledTo_of_next he (.refl s)
  case lselDeassertion =>
    simp only [exec, execLselDeassertion] at he
    split at he
    · split at he
      · exact State.outside_ledTo he fun s => .endFrame (.refl s) _
      · exact State.ledTo_of_next he (.refl s)
    · exact State.ledTo_of_next he (.refl s)

/-- The commands of the link but ABORT_GROUP: each is answered. -/
theorem exec_ledTo_of_linkPart {c : Instr} {s t : State} (hlink : Instr.isLinkPart c = true)
    (habort : c ≠ .abortGroup) (he : exec c s = .next t) : s.ledTo t := by
  cases c
  case abortGroup => exact absurd rfl habort
  case status => exact State.link_ledTo he fun s => .respond (.refl s) _ _
  case nextEvent => exact State.link_ledTo he fun s => .takeNextEvent (.refl s)
  case setMask => exact State.link_ledTo he fun s => .takeSetMask (.refl s) _
  case readLive => exact State.link_ledTo he fun s => .takeCopyRead (.refl s) _ _ _ _
  case readStage => exact State.link_ledTo he fun s => .takeCopyRead (.refl s) _ _ _ _
  case stage =>
    simp only [exec, execStage] at he
    exact State.link_ledTo he fun s => .ite (.takeStage (.refl s) _ _ _) (.refl s)
  case copyLiveToStage => exact State.link_ledTo he fun s => .takeCopyLive (.refl s)
  case storeAnchor => exact State.link_ledTo he fun s => .takeStoreAnchor (.refl s)
  case format => exact State.link_ledTo he fun s => .takeFormat (.refl s)
  case readJournal => exact State.link_ledTo he fun s => .takeReadJournal (.refl s) _ _
  case scanRegion => exact State.link_ledTo he fun s => .takeScanRegion (.refl s) _
  case unknownCommand =>
    simp only [exec, execUnknownCommand] at he
    exact State.link_ledTo he fun s => .ite (.refl s) (.respond (.refl s) _ _)
  case badCheckFrame =>
    simp only [exec, execBadCheckFrame] at he
    exact State.link_ledTo he fun s => .ite (.respond (by exact .refl s) _ _) (.refl s)
  all_goals exact absurd (show false = true from hlink) Bool.false_ne_true

/-- The completions: the owner of the transfer goes on. -/
theorem exec_ledTo_of_completion {p : Purpose} {s t : State}
    (he : exec p.completion s = .next t) : s.ledTo t := by
  cases p <;> simp only [Purpose.completion] at he
  case anchorLoad => exact State.outside_ledTo he fun s => .loadReads (.refl s) _
  case slotsRead =>
    refine State.completion_ledTo he fun _ _ s => ?_
    split
    · exact .haltJournal (.refl s) _ _
    · exact .ite (.finishRecovery (by exact .refl s)) (.requestWalk (by exact .refl s) _ _)
  case walkRead =>
    refine State.completion_ledTo he fun _ _ s => ?_
    split
    · split
      · exact .walkStops (.refl s) _ _
      · exact .walkOn (.refl s) _ _
      · exact .walkOn (.refl s) _ _
      · exact .runClosed (.refl s) _
      · exact .runClosed (.refl s) _
    · exact .refl s
  case imageRead =>
    refine State.completion_ledTo he fun _ _ s => ?_
    split
    · exact .ite (.request (.refl s) _) (.haltJournal (.refl s) _ _)
    · exact .refl s
  case restoreWrite =>
    refine State.completion_ledTo he fun _ _ s => ?_
    split
    · exact .ite (.requestUndone (.refl s) _)
        (.requestJournalRead (by exact .backward (.refl s) (.restoring _) nofun) _ _ _)
    · exact .refl s
  case undoneWrite =>
    refine State.completion_ledTo he fun _ _ s => ?_
    split
    · exact .backward (.refl s) .idle nofun
    · exact .refl s
  case recoveryRewrite =>
    exact State.completion_ledTo he fun _ _ s => .finishRecovery (by exact .refl s)
  case recoveryClose =>
    refine State.completion_ledTo he fun _ _ s => ?_
    split
    · exact .finishRecovery (by exact .refl s)
    · exact .refl s
  case wipe =>
    refine State.completion_ledTo he fun _ _ s => ?_
    split
    · exact .wipeStep (.refl s) _
    · exact .refl s
  case wipeHeader =>
    exact State.completion_ledTo he fun _ _ s => .requestHeader (by exact .refl s) _ _ _
  case openingHeader =>
    exact State.completion_ledTo he fun _ _ s => .requestJournalWrite (by exact .refl s) _ _ _
  case openRecord =>
    exact State.completion_ledTo he fun _ _ s => .leaveOpening (by exact .refl s)
  case blockRead =>
    refine State.completion_ledTo he fun _ _ s => ?_
    split
    · exact .requestJournalWrite (.refl s) _ _ _
    · exact .refl s
    · exact .refl s
  case imageWrite =>
    refine State.completion_ledTo he fun _ _ s => ?_
    split
    · exact .ite (.refl s) (.requestDataWrite (by exact .refl s) _)
    · exact .refl s
  case dataWrite => exact State.completion_ledTo he fun _ _ s => .refl s
  case commitRecord =>
    exact State.completion_ledTo he fun _ _ s => .requestHeader (.refl s) _ _ _
  case commitHeader =>
    exact State.completion_ledTo he fun _ _ s => .leaveCommitting (by exact .refl s)
  case rollbackHeader =>
    refine State.completion_ledTo he fun _ _ s => ?_
    split
    · exact .leaveRollback (by exact .refl s)
    · exact .refl s
  case hostRead =>
    refine State.completion_ledTo he fun _ _ s => ?_
    split
    · exact .ite (.refl s) (.refl s)
    · exact .refl s
  case slotClear =>
    refine State.completion_ledTo he fun _ _ s => ?_
    split
    · exact .beginAnchorWrite (.refl s) _
    · exact .refl s
  case anchorWrite =>
    refine State.completion_ledTo he fun _ _ s => ?_
    split
    · split
      · exact .ite (.requestAnchorWrite (.refl s) _ _) (.ite (.refl s) (.switchAnchor (.refl s) _))
      · exact .refl s
    · exact .refl s
  case format =>
    refine State.completion_ledTo he fun _ _ s => ?_
    split
    · exact .ite (.requestFormat (.refl s) _) (.endFormat (.refl s))
    · exact .refl s
  case scanRead =>
    exact State.completion_ledTo he fun _ ws s =>
      .ite (.requestScanRead (by exact .refl s)) (.foldScanRead (.refl s) ws)
  case linkRead => exact State.completion_ledTo he fun _ _ s => .endLinkRead (.refl s) _ _

/-- Every command but the two that take an abort. -/
theorem exec_ledTo {c : Instr} {s t : State} (habort : c ≠ .abortGroup) (hage : c ≠ .ageTimeout)
    (he : exec c s = .next t) : s.ledTo t := by
  cases c
  case ageTimeout => exact absurd rfl hage
  case hostAddressPhase =>
    simp only [exec, execHostAddressPhase] at he
    exact State.outside_ledTo he fun s => .ite (.classify (by exact .refl s) _) (.refl s)
  case hostDataPhase => exact State.outside_ledTo he fun s => .takeDataPhase (.refl s) _
  case heldAccessRelease =>
    simp only [exec, execHeldAccessRelease] at he
    refine State.within_ledTo he fun s => ?_
    split
    · exact .ite (.classify (.refl s) _) (.refl s)
    · exact .refl s
  case waitingWriteTakesPlace =>
    simp only [exec, execWaitingWriteTakesPlace] at he
    refine State.within_ledTo he fun s => ?_
    split
    · split
      · exact .ite (.refl s) (.refl s)
      · exact .refl s
    · exact .refl s
  case queuedReadProceeds =>
    simp only [exec, execQueuedReadProceeds] at he
    refine State.within_ledTo he fun s => ?_
    split
    · exact .ite (.requestHostRead (.refl s) _) (.refl s)
    · exact .refl s
  case tick =>
    simp only [exec, execTick] at he
    exact State.outside_ledTo he fun s => .ite (.takeTick (.refl s)) (.refl s)
  case scanIntervalExpiry =>
    simp only [exec, execScanIntervalExpiry] at he
    exact State.within_ledTo he fun s => .ite (.takeExpiry (.refl s)) (.refl s)
  case duePeriodicScanStart => exact State.within_ledTo he fun s => .startDueScan (.refl s)
  case forwardWorkStart =>
    simp only [exec, execForwardWorkStart] at he
    refine State.within_ledTo he fun s => ?_
    split
    · exact .refl s
    · split
      · exact .ite (.beginGroupWork (.refl s) _) (.takeHead (.refl s))
      · exact .takeHead (.refl s)
  case storeWorkStart =>
    simp only [exec, execStoreWorkStart] at he
    refine State.within_ledTo he fun s => ?_
    split
    · exact .ite (.ite (.requestSlotClear (.refl s) _) (.beginAnchorWrite (.refl s) _)) (.refl s)
    · exact .refl s
  case backwardActivityStart =>
    simp only [exec, execBackwardActivityStart] at he
    refine State.within_ledTo he fun s => ?_
    split
    · exact .ite (.refl s) (.startRollback (.refl s) _ _ _)
    · exact .refl s
  case safeEntry =>
    simp only [exec, execSafeEntry] at he
    exact State.within_ledTo he fun s => .ite (.refl s) (.refl s)
  case powerOn | powerLoss | rstAssertion | rstRelease | grpRise | grpFall | pfailAssertion |
      pfailDeassertion | lselAssertion | lselDeassertion => exact exec_ledTo_of_lineEvent rfl he
  case status | nextEvent | abortGroup | setMask | readLive | readStage | stage | copyLiveToStage |
      storeAnchor | format | readJournal | scanRegion | unknownCommand | badCheckFrame =>
    exact exec_ledTo_of_linkPart rfl habort he
  case anchorLoadComplete => exact exec_ledTo_of_completion (p := .anchorLoad) he
  case headerSlotsReadComplete => exact exec_ledTo_of_completion (p := .slotsRead) he
  case walkReadComplete => exact exec_ledTo_of_completion (p := .walkRead) he
  case recoveryHeaderRewriteComplete => exact exec_ledTo_of_completion (p := .recoveryRewrite) he
  case recoveryClosingHeaderComplete => exact exec_ledTo_of_completion (p := .recoveryClose) he
  case wipeTransferComplete => exact exec_ledTo_of_completion (p := .wipe) he
  case wipeHeaderComplete => exact exec_ledTo_of_completion (p := .wipeHeader) he
  case openingHeaderComplete => exact exec_ledTo_of_completion (p := .openingHeader) he
  case openRecordComplete => exact exec_ledTo_of_completion (p := .openRecord) he
  case blockReadComplete => exact exec_ledTo_of_completion (p := .blockRead) he
  case imageRecordComplete => exact exec_ledTo_of_completion (p := .imageWrite) he
  case dataWriteComplete => exact exec_ledTo_of_completion (p := .dataWrite) he
  case commitRecordComplete => exact exec_ledTo_of_completion (p := .commitRecord) he
  case commitHeaderComplete => exact exec_ledTo_of_completion (p := .commitHeader) he
  case imageRecordReadComplete => exact exec_ledTo_of_completion (p := .imageRead) he
  case restoreBlockWriteComplete => exact exec_ledTo_of_completion (p := .restoreWrite) he
  case undoneRecordComplete => exact exec_ledTo_of_completion (p := .undoneWrite) he
  case rollbackHeaderComplete => exact exec_ledTo_of_completion (p := .rollbackHeader) he
  case hostReadTransferComplete => exact exec_ledTo_of_completion (p := .hostRead) he
  case headerSlotClearComplete => exact exec_ledTo_of_completion (p := .slotClear) he
  case anchorWriteTransferComplete => exact exec_ledTo_of_completion (p := .anchorWrite) he
  case formatTransferComplete => exact exec_ledTo_of_completion (p := .format) he
  case scanReadComplete => exact exec_ledTo_of_completion (p := .scanRead) he
  case linkJournalReadComplete => exact exec_ledTo_of_completion (p := .linkRead) he

end Sys2Proof.Machine

/-! ## The commands that take an abort -/

namespace Sys2Proof.Machine

/-- ABORT_GROUP answers, and in OPEN takes the abort first (R14). -/
theorem State.takeAbortGroup_cases (s : State) :
    (∃ st s', s.restrained s' ∧
      State.takeAbortGroup s = State.answer .abortGroup st [] s' ∧
        s'.port.inFlight = s.port.inFlight) ∨
    State.takeAbortGroup s =
      State.answer .abortGroup .ok [] (State.takeAbort .abortCmd s) := by
  unfold State.takeAbortGroup
  cases s.group.state
  case groupOpen => exact .inr rfl
  case opening =>
    dsimp only
    split
    · exact .inl ⟨_, s, .refl s, rfl, rfl⟩
    · exact .inl ⟨_, { s with group.abortPending := true }, .refl s, rfl, rfl⟩
  all_goals exact .inl ⟨_, s, .refl s, rfl, rfl⟩

theorem State.takeAbortGroup_keepsRanges (s : State) :
    s.keepsRanges (State.takeAbortGroup s) := by
  rcases State.takeAbortGroup_cases s with ⟨st, s', h, heq, -⟩ | heq
  · rw [heq]
    exact (h.answer _ _ _).1
  · rw [heq]
    exact (State.takeAbort_keepsRanges _ s).trans (State.restrained.answer (.refl _) _ _ _).1

theorem State.takeAbortGroup_inFlight (s : State) :
    (State.takeAbortGroup s).port.inFlight = s.port.inFlight := by
  rcases State.takeAbortGroup_cases s with ⟨st, s', -, heq, hport⟩ | heq
  · rw [heq, State.answer_port, hport]
  · rw [heq, State.answer_port, State.takeAbort_inFlight]

theorem State.inFrame_cases (f : State → State) (s : State) :
    State.inFrame f s = f s ∨ State.inFrame f s = s := by
  unfold State.inFrame
  split
  · exact .inl rfl
  · exact .inr rfl

/-- A command that takes an abort keeps the counters and the response in range, and leaves the port
as the close of the moment left it. -/
theorem exec_of_abort {c : Instr} {s t : State} (hc : c = .abortGroup ∨ c = .ageTimeout)
    (he : exec c s = .next t) :
    ∃ s0, s.takenIn s0 ∧ s0.keepsRanges t ∧ t.port.inFlight = s0.port.inFlight := by
  rcases hc with rfl | rfl
  · obtain rfl := State.outside_eq_next.mp he
    split
    · refine ⟨_, .inr rfl, ?_⟩
      rcases State.inFrame_cases State.takeAbortGroup (State.settle s) with heq | heq
      · rw [heq]
        exact ⟨(State.takeAbortGroup_keepsRanges _).trans (State.restrained.refl _).finish.1,
          by simp [State.takeAbortGroup_inFlight]⟩
      · rw [heq]
        exact ⟨(State.restrained.refl _).finish.1, by simp⟩
    · exact ⟨s, .inl rfl, (State.restrained.refl s).1, rfl⟩
  · obtain rfl := State.within_eq_next.mp he
    refine ⟨s, .inl rfl, ?_⟩
    split
    · exact ⟨(State.takeAgeTimeout_keepsRanges s).trans (State.restrained.refl _).finish.1,
        by simp [State.takeAgeTimeout_inFlight]⟩
    · exact ⟨(State.restrained.refl s).1, rfl⟩

/-! ## Every command -/

theorem State.takenIn.keepsRanges {s s0 : State} (h : s.takenIn s0) : s.keepsRanges s0 := by
  rcases h with rfl | rfl
  · exact (State.restrained.refl _).1
  · exact State.settle_keepsRanges s

/-- A due rollback is still due when a command is taken, and nothing has started (R70). -/
theorem State.takenIn.inFlight {s s0 : State} (h : s.takenIn s0) (hdue : s.rollbackDue = true) :
    s0.port.inFlight = s.port.inFlight ∨ s0.port.inFlight = none := by
  rcases h with rfl | rfl
  · exact .inl rfl
  · exact (State.settle_of_rollbackDue hdue).2

theorem exec_keepsRanges {c : Instr} {s t : State} (he : exec c s = .next t) :
    s.keepsRanges t := by
  by_cases hc : c = .abortGroup ∨ c = .ageTimeout
  · obtain ⟨s0, htaken, hranges, -⟩ := exec_of_abort hc he
    exact htaken.keepsRanges.trans hranges
  · obtain ⟨habort, hage⟩ := not_or.mp hc
    obtain ⟨s0, htaken, hranges, -⟩ := exec_ledTo habort hage he
    exact htaken.keepsRanges.trans hranges

/-- While a rollback is due no command puts a transfer into flight (R70). -/
theorem exec_inFlight_of_rollbackDue {c : Instr} {s t : State} (hs : s.rollbackDue = true)
    (he : exec c s = .next t) (ht : t.rollbackDue = true) :
    t.port.inFlight = s.port.inFlight ∨ t.port.inFlight = none := by
  have hstart : ∃ s0, s.takenIn s0 ∧
      (t.port.inFlight = s0.port.inFlight ∨ t.port.inFlight = none) := by
    by_cases hc : c = .abortGroup ∨ c = .ageTimeout
    · obtain ⟨s0, htaken, -, hport⟩ := exec_of_abort hc he
      exact ⟨s0, htaken, .inl hport⟩
    · obtain ⟨habort, hage⟩ := not_or.mp hc
      obtain ⟨s0, htaken, -, hnothing⟩ := exec_ledTo habort hage he
      exact ⟨s0, htaken, (hnothing ht).2⟩
  obtain ⟨s0, htaken, hport | hport⟩ := hstart
  · rw [hport]
    exact htaken.inFlight hs
  · exact .inr hport

theorem step_keepsRanges {s t : State} (he : step s = .next t) : s.keepsRanges t := by
  rw [step_eq] at he
  split at he
  · have hranges := exec_keepsRanges he
    exact hranges
  · obtain ⟨s0, htaken, hranges, -⟩ := State.outside_ledTo he fun s => .refl s
    exact htaken.keepsRanges.trans hranges

/-- Settles O16. -/
theorem countersAndResponsesKept : Obligations.CountersAndResponsesKept :=
  ⟨fun _ _ h he => (step_keepsRanges he).1 h, fun _ _ h he => (step_keepsRanges he).2 h⟩

/-! # Proofs: the rollback (O52) -/

/-- The image record read back: tested, then its block is restored, or the journal halts (R68,
R69). -/
theorem exec_imageRecordReadComplete {t : Transfer} {r : Rollback} {s s0 : State}
    (h : s.completes .imageRead t s0) (hback : s0.journal.backward = .restoring r) :
    exec .imageRecordReadComplete s = .next (State.finish
      (if imageRecordOk s0.anchor.live r.group (Transfer.wordsRead t s0.mem) then
        State.request
          { purpose := .restoreWrite
            addr := imageRecordBlock (Transfer.wordsRead t s0.mem) * 4
            body := .write (bothLanes (imageRecordOld (Transfer.wordsRead t s0.mem))) }
          (State.completed t s0)
      else State.haltJournal .image r.next (State.completed t s0))) := by
  refine State.completion_eq h ?_
  simp only [State.completed_journal, hback]
  rfl

/-- Settles O52: the clause on R70 is `exec_inFlight_of_rollbackDue`, the others are the arms of
their commands. -/
theorem rollbackSteps : Obligations.RollbackSteps := by
  refine ⟨?_, fun g cause s hrun hdue => ⟨?_, ?_, ?_⟩, ⟨?_, ?_⟩, ?_, ?_⟩
  · intro c g g' cause cause' s t hs he ht
    exact exec_inFlight_of_rollbackDue (s.rollbackDue_iff.mpr ⟨g, cause, hs⟩) he
      (t.rollbackDue_iff.mpr ⟨g', cause', ht⟩)
  · intro hbusy
    rw [exec_backwardActivityStart hrun hdue, if_pos hbusy]
  · intro hfree hw
    rw [exec_backwardActivityStart hrun hdue, if_neg (by simp [hfree]), hw]
    rfl
  · intro hfree hw
    rw [exec_backwardActivityStart hrun hdue, if_neg (by simp [hfree]),
      State.startRollback_of_pos hw]
    rfl
  · intro t r s s0 h hback
    rw [exec_imageRecordReadComplete h hback]
    exact ⟨fun hok => by rw [if_pos hok], fun hbad => by rw [if_neg (by simp [hbad])]⟩
  · intro t r s s0 h hback
    refine State.completion_eq h ?_
    simp only [State.completed_journal, hback]
    by_cases hlast : r.restored + 1 = r.total
    · rw [if_pos hlast, if_pos hlast, ← hlast]
      rfl
    · rw [if_neg hlast, if_neg hlast]
      rfl
  · intro t r s s0 h hback
    refine State.completion_eq h ?_
    simp only [State.completed_journal, hback]
  · intro t hd cause n k s s0 h hwriting hwork
    refine State.completion_eq h ?_
    simp only [State.completed_journal, hwork,
      State.headerWritten_of_slotWriting (s := State.completed t s0) hwriting]
    rfl

end Sys2Proof.Machine

/-! # Proofs: what the port carries, and what its requesters are at

`State.workSound` is a statement on the port (each requester asks for its own, and is at what its
transfer is for) and one on the thread of the group state. The port's half is kept by requests,
grants, withdrawals and completions, and by whatever leaves the requesters that carry a transfer at
what they were at. -/

namespace Sys2Proof.Machine

-- One proof after the other, here and in the parts after this: side by side they ask for more
-- threads than a module gets.
set_option Elab.async false

/-- The requester has no transfer, in flight or waiting. -/
def State.free (s : State) (q : Requester) : Prop :=
  ∀ t, s.carries t → Purpose.requester t.purpose ≠ q

/-- The port's half of `State.workSound` (R140, R141). -/
def State.carrySound (s : State) : Prop :=
  (∀ q t, Requests.get s.port.requests q = some t →
    Purpose.requester t.purpose = q ∧ s.inFlightFor q = false) ∧
  (∀ t, s.carries t → Purpose.fits t.purpose s)

/-- The thread's half of `State.workSound` (R37, R67, R91, R103). -/
def State.threadSound (s : State) : Prop :=
  (∀ w, s.doesWork w →
    s.group.state = w.stateOf ∧ s.journal.handed = none ∧ s.journal.backward = .idle) ∧
  (∀ w, s.journal.handed = some w →
    s.group.state = w.stateOf ∧ s.journal.backward = .idle) ∧
  s.journal.backward.fits s.group.state ∧
  (s.group.state = .configuring ↔ s.anchor.job ≠ none) ∧
  (∀ j, s.anchor.job = some j → j.store = true → j.stage ≠ .formatting →
    s.journal.handed = none ∧ s.noGroupWork)

theorem State.workSound_iff (s : State) : s.workSound ↔ s.carrySound ∧ s.threadSound := by
  simp only [State.workSound, State.carrySound, State.threadSound, and_assoc]

theorem State.workSound.carry {s : State} (h : s.workSound) : s.carrySound :=
  (s.workSound_iff.mp h).1

theorem State.workSound.thread {s : State} (h : s.workSound) : s.threadSound :=
  (s.workSound_iff.mp h).2

theorem State.inFlightFor_iff (s : State) (q : Requester) :
    s.inFlightFor q = true ↔
      ∃ t, s.port.inFlight = some t ∧ Purpose.requester t.purpose = q := by
  unfold State.inFlightFor
  split <;> simp_all

theorem State.inFlightIs_iff (s : State) (p : Purpose) :
    s.inFlightIs p = true ↔ ∃ t, s.port.inFlight = some t ∧ t.purpose = p := by
  unfold State.inFlightIs
  split <;> simp_all

theorem State.inFlightFor_eq_false_iff (s : State) (q : Requester) :
    s.inFlightFor q = false ↔
      ∀ t, s.port.inFlight = some t → Purpose.requester t.purpose ≠ q := by
  simp [← Bool.not_eq_true, State.inFlightFor_iff]

theorem State.free.not_inFlightFor {s : State} {q : Requester} (h : s.free q) :
    s.inFlightFor q = false :=
  (s.inFlightFor_eq_false_iff q).mpr fun t ht => h t (.inl ht)

/-! ## What a requester is at -/

/-- From `s` to `t` a requester stays at what its transfers are for. -/
def State.keepsAt (s t : State) (q : Requester) : Prop :=
  match q with
  | .backward => t.journal.backward = s.journal.backward
  | .forward => t.journal.forward = s.journal.forward
  | .host => Purpose.fits .hostRead s → Purpose.fits .hostRead t
  | .anchor => (Purpose.fits .anchorLoad s → Purpose.fits .anchorLoad t) ∧
      t.anchor.job = s.anchor.job
  | .link => Purpose.fits .linkRead s → Purpose.fits .linkRead t
  | .scanner => Purpose.fits .scanRead s → Purpose.fits .scanRead t

theorem Purpose.fits_of_keepsAt {s t : State} {p : Purpose} (h : s.keepsAt t p.requester)
    (hfits : Purpose.fits p s) : Purpose.fits p t := by
  cases p
  case anchorLoad => exact h.1 hfits
  case slotClear | anchorWrite => simpa only [Purpose.fits, h.2] using hfits
  case hostRead | linkRead | scanRead => exact h hfits
  all_goals
    simp only [State.keepsAt, Purpose.requester] at h
    simpa only [Purpose.fits, State.doesWork, h] using hfits

/-- A change of the port alone leaves every requester but the scanner at what it is at; the mark for
the read in flight is the port's (R141, R156). -/
theorem State.keepsAt_port {s : State} (p : MemoryPort) (m : Memory) {q : Requester}
    (hscan : q = .scanner → Purpose.fits .scanRead s →
      Purpose.fits .scanRead { s with port := p, mem := m }) :
    s.keepsAt { s with port := p, mem := m } q := by
  cases q with
  | anchor => exact ⟨id, rfl⟩
  | host | link => exact id
  | backward | forward => rfl
  | scanner => exact hscan rfl

/-- From `s` to `t` the port stays, and so does what each requester that carries a transfer is
at. -/
structure State.movesOn (s t : State) : Prop where
  port : t.port = s.port := by rfl
  backward : s.free .backward ∨ s.keepsAt t .backward := by exact .inr rfl
  forward : s.free .forward ∨ s.keepsAt t .forward := by exact .inr rfl
  host : s.free .host ∨ s.keepsAt t .host := by exact .inr id
  anchor : s.free .anchor ∨ s.keepsAt t .anchor := by exact .inr ⟨id, rfl⟩
  link : s.free .link ∨ s.keepsAt t .link := by exact .inr id
  scanner : s.free .scanner ∨ s.keepsAt t .scanner := by exact .inr id

theorem State.movesOn.at {s t : State} (h : s.movesOn t) (q : Requester) :
    s.free q ∨ s.keepsAt t q := by
  cases q with
  | backward => exact h.backward
  | forward => exact h.forward
  | host => exact h.host
  | anchor => exact h.anchor
  | link => exact h.link
  | scanner => exact h.scanner

theorem State.carrySound.moves {s t : State} (h : s.carrySound) (hm : s.movesOn t) :
    t.carrySound := by
  obtain ⟨hown, hfits⟩ := h
  have hport := hm.port
  refine ⟨fun q tr hq => ?_, fun tr htr => ?_⟩
  · simpa only [State.inFlightFor, hport] using hown q tr (hport ▸ hq)
  · have htr : s.carries tr := by simpa only [State.carries, hport] using htr
    refine Purpose.fits_of_keepsAt ?_ (hfits tr htr)
    exact (hm.at _).resolve_left fun hfree => hfree tr htr rfl

/-! ## The port -/

section
variable {s : State}

/-- What the port carries after a request is what it carried before, and the transfer asked for. -/
theorem State.carries_of_request {t x : Transfer} (h : (State.request t s).carries x) :
    s.carries x ∨ x = t := by
  rcases State.request_cases t s with ⟨-, -, heq⟩ | heq <;> rw [heq] at h
  · rcases h with h | h
    · exact .inr (Option.some.inj h).symm
    · exact .inl (.inr h)
  · rcases h with h | ⟨q, h⟩
    · exact .inl (.inl h)
    · by_cases hq : q = Purpose.requester t.purpose
      · rw [hq, Requests.get_put_same] at h
        exact .inr (Option.some.inj h).symm
      · rw [Requests.get_put_other _ _ hq] at h
        exact .inl (.inr ⟨q, h⟩)

theorem State.carrySound.request (h : s.carrySound) {t : Transfer}
    (hfree : s.free (Purpose.requester t.purpose)) (hfits : Purpose.fits t.purpose s) :
    (State.request t s).carrySound := by
  obtain ⟨hown, hall⟩ := h
  have hkept : ∀ x, s.carries x ∨ x = t → Purpose.fits x.purpose s := by
    rintro x (hx | rfl)
    · exact hall x hx
    · exact hfits
  refine ⟨?_, fun x hx => ?_⟩
  · rcases State.request_cases t s with ⟨-, -, heq⟩ | heq <;> rw [heq]
    · intro q x hq
      obtain ⟨hreq, -⟩ := hown q x hq
      refine ⟨hreq, (State.inFlightFor_eq_false_iff _ q).mpr ?_⟩
      rintro _ ⟨⟩ rfl
      exact hfree x (.inr ⟨_, hq⟩) hreq
    · intro q x hq
      by_cases hsame : q = Purpose.requester t.purpose
      · rw [hsame, Requests.get_put_same] at hq
        obtain rfl := Option.some.inj hq
        exact ⟨hsame.symm, hsame ▸ hfree.not_inFlightFor⟩
      · rw [Requests.get_put_other _ _ hsame] at hq
        exact hown q x hq
  · have hx := hkept x (State.carries_of_request hx)
    refine Purpose.fits_of_keepsAt ?_ hx
    rcases State.request_cases t s with ⟨hport, -, heq⟩ | heq <;> rw [heq]
    · refine State.keepsAt_port _ s.mem fun _ hscan => ?_
      exact .inl (hscan.resolve_right fun ⟨_, hflight⟩ => by
        simp [State.inFlightIs, hport] at hflight)
    · exact State.keepsAt_port _ s.mem fun _ => id

/-- A grant moves a waiting transfer into flight and changes nothing else of what the port
carries. -/
theorem State.carries_grant {x : Transfer} : (State.grant s).carries x ↔ s.carries x := by
  rcases State.grant_cases s with heq | ⟨q, hport, -, hnext, heq⟩
  · rw [heq]
  · obtain ⟨t, ht⟩ : ∃ t, Requests.get s.port.requests q = some t :=
      Option.isSome_iff_exists.mp
        (List.find?_some (p := fun q => (Requests.get s.port.requests q).isSome) hnext)
    rw [heq]
    constructor
    · rintro (hx | ⟨q', hx⟩)
      · exact .inr ⟨q, hx⟩
      · by_cases hq : q' = q
        · simp [hq] at hx
        · rw [Requests.get_put_other _ _ hq] at hx
          exact .inr ⟨q', hx⟩
    · rintro (hx | ⟨q', hx⟩)
      · simp [hport] at hx
      · by_cases hq : q' = q
        · exact .inl (hq ▸ hx)
        · exact .inr ⟨q', (Requests.get_put_other _ _ hq).trans hx⟩

theorem State.carrySound.grant (h : s.carrySound) : (State.grant s).carrySound := by
  obtain ⟨hown, hall⟩ := h
  have hkept : ∀ x, (State.grant s).carries x → Purpose.fits x.purpose s :=
    fun x hx => hall x (State.carries_grant.mp hx)
  rcases State.grant_cases s with heq | ⟨q, hport, -, -, heq⟩
  · rw [heq]
    exact ⟨hown, hall⟩
  · rw [heq] at hkept ⊢
    refine ⟨fun q' x hx => ?_, fun x hx => ?_⟩
    · have hq : q' ≠ q := by
        rintro rfl
        simp at hx
      rw [Requests.get_put_other _ _ hq] at hx
      refine ⟨(hown q' x hx).1, (State.inFlightFor_eq_false_iff _ q').mpr fun t ht hreq => ?_⟩
      exact hq (hreq.symm.trans (hown q t ht).1)
    · refine Purpose.fits_of_keepsAt (State.keepsAt_port _ s.mem fun _ hscan => ?_) (hkept x hx)
      exact .inl (hscan.resolve_right fun ⟨_, hflight⟩ => by
        simp [State.inFlightIs, hport] at hflight)

/-- A requester whose request is withdrawn carries what it has in flight, and no more. -/
theorem State.carrySound.withdraw (h : s.carrySound) (q : Requester) :
    (State.withdraw q s).carrySound ∧
      (s.inFlightFor q = false → (State.withdraw q s).free q) := by
  obtain ⟨hown, hall⟩ := h
  have hwaits : ∀ q' x, Requests.get (State.withdraw q s).port.requests q' = some x →
      q' ≠ q ∧ Requests.get s.port.requests q' = some x := by
    intro q' x hx
    have hq : q' ≠ q := by
      rintro rfl
      simp [State.withdraw] at hx
    exact ⟨hq, (Requests.get_put_other _ _ hq).symm.trans hx⟩
  have hcarries : ∀ x, (State.withdraw q s).carries x → s.carries x := by
    rintro x (hx | ⟨q', hx⟩)
    · exact .inl hx
    · exact .inr ⟨q', (hwaits q' x hx).2⟩
  refine ⟨⟨fun q' x hx => hown q' x (hwaits q' x hx).2, fun x hx => ?_⟩, fun hflight x hx => ?_⟩
  · exact Purpose.fits_of_keepsAt (State.keepsAt_port _ s.mem fun _ => id) (hall x (hcarries x hx))
  · rcases hx with hx | ⟨q', hx⟩
    · exact (s.inFlightFor_eq_false_iff q).mp hflight x hx
    · obtain ⟨hq, hx⟩ := hwaits q' x hx
      rw [(hown q' x hx).1]
      exact hq

/-- The transfer in flight has ended: its requester has none left. -/
theorem State.carrySound.freed (h : s.carrySound) {t : Transfer}
    (ht : s.port.inFlight = some t) (m : Memory) :
    State.carrySound { s with port.inFlight := none, mem := m } ∧
      State.free { s with port.inFlight := none, mem := m } (Purpose.requester t.purpose) := by
  obtain ⟨hown, hall⟩ := h
  have hother : ∀ q x, Requests.get s.port.requests q = some x →
      Purpose.requester x.purpose ≠ Purpose.requester t.purpose := by
    intro q x hx hsame
    obtain ⟨hreq, hfree⟩ := hown q x hx
    exact (s.inFlightFor_eq_false_iff q).mp hfree t ht (hsame ▸ hreq)
  refine ⟨⟨fun q x hx => ⟨(hown q x hx).1, rfl⟩, ?_⟩, ?_⟩
  · rintro x (hx | ⟨q, hx⟩)
    · cases hx
    · refine Purpose.fits_of_keepsAt (State.keepsAt_port _ _ fun hreq hscan => ?_)
        (hall x (.inr ⟨q, hx⟩))
      refine .inl (hscan.resolve_right fun ⟨_, hflight⟩ => ?_)
      obtain ⟨t', ht', hp⟩ := (s.inFlightIs_iff _).mp hflight
      obtain rfl := Option.some.inj (ht.symm.trans ht')
      exact hother q x hx (hreq.trans (congrArg Purpose.requester hp).symm)
  · rintro x (hx | ⟨q, hx⟩)
    · cases hx
    · exact hother q x hx

theorem State.carrySound.completed (h : s.carrySound) {t : Transfer}
    (ht : s.port.inFlight = some t) :
    (State.completed t s).carrySound ∧
      (State.completed t s).free (Purpose.requester t.purpose) :=
  h.freed ht _

end
end Sys2Proof.Machine

/-! # Proofs: the thread of the group state, and who is free -/

namespace Sys2Proof.Machine

set_option Elab.async false

section
variable {s t : State}

/-- No group work, no backward activity, nothing handed over (R37, R67). -/
def State.unengaged (s : State) : Prop :=
  s.noGroupWork ∧ s.journal.handed = none ∧ s.journal.backward = .idle

theorem State.noGroupWork_of_none (h : s.journal.forward = none) : s.noGroupWork := by
  rintro w ⟨k, hk⟩
  simp [h] at hk

theorem State.noGroupWork_of_retire {e : Entry} {r : Bool}
    (h : s.journal.forward = some (.retire e r)) : s.noGroupWork := by
  rintro w ⟨k, hk⟩
  simp [h] at hk

/-- A store or a format is in progress exactly in CONFIGURING (R91, R97). -/
def State.jobFits (s : State) : Prop := s.group.state = .configuring ↔ s.anchor.job ≠ none

theorem State.jobFits_of_none (hg : s.group.state ≠ .configuring) (hj : s.anchor.job = none) :
    s.jobFits := by
  simp [State.jobFits, hg, hj]

theorem State.threadSound.jobFits (h : s.threadSound) : s.jobFits := h.2.2.2.1

theorem State.threadSound.job_none (h : s.threadSound) (hg : s.group.state ≠ .configuring) :
    s.anchor.job = none := by
  simpa [State.jobFits, hg] using h.jobFits

theorem State.threadSound_of_unengaged (h : s.unengaged) (hjob : s.jobFits) : s.threadSound := by
  obtain ⟨hwork, hhanded, hback⟩ := h
  refine ⟨fun w hw => absurd hw (hwork w), ?_, ?_, hjob, fun _ _ _ _ => ⟨hhanded, hwork⟩⟩
  · simp [hhanded]
  · simp [hback, Backward.fits]

/-- Group work is handed over in the group state it belongs to (R37). -/
theorem State.threadSound_of_handed {w : GroupWork} (hwork : s.noGroupWork)
    (hhanded : s.journal.handed = some w) (hback : s.journal.backward = .idle)
    (hg : s.group.state = w.stateOf) (hjob : s.jobFits)
    (hstore : ∀ j, s.anchor.job = some j → j.store = true → j.stage = .formatting) :
    s.threadSound := by
  refine ⟨fun w hw => absurd hw (hwork w), fun w' hw' => ?_, ?_, hjob, ?_⟩
  · obtain rfl := Option.some.inj (hhanded.symm.trans hw')
    exact ⟨hg, hback⟩
  · simp [hback, Backward.fits]
  · exact fun j hj hs hstage => absurd (hstore j hj hs) hstage

/-- The forward activity does group work in the group state it belongs to (R37). -/
theorem State.threadSound_of_work {w : GroupWork} {k : Nat}
    (hwork : s.journal.forward = some (.groupWork w k)) (hhanded : s.journal.handed = none)
    (hback : s.journal.backward = .idle) (hg : s.group.state = w.stateOf) (hjob : s.jobFits)
    (hstore : ∀ j, s.anchor.job = some j → j.store = true → j.stage = .formatting) :
    s.threadSound := by
  refine ⟨?_, by simp [hhanded], by simp [hback, Backward.fits], hjob, ?_⟩
  · rintro w' ⟨k', hk'⟩
    obtain ⟨rfl, rfl⟩ : w = w' ∧ k = k' := by simpa [hwork] using hk'
    exact ⟨hg, hhanded, hback⟩
  · exact fun j hj hs hstage => absurd (hstore j hj hs) hstage

/-- The backward activity is at something of the group state's own (R67, R103). -/
theorem State.threadSound_of_backward (hwork : s.noGroupWork) (hhanded : s.journal.handed = none)
    (hfits : s.journal.backward.fits s.group.state) (hjob : s.jobFits) : s.threadSound :=
  ⟨fun w hw => absurd hw (hwork w), by simp [hhanded], hfits, hjob,
    fun _ _ _ _ => ⟨hhanded, hwork⟩⟩

/-- While the backward activity is at something there is no group work (R37). -/
theorem State.threadSound.of_backward (h : s.threadSound) (hb : s.journal.backward ≠ .idle) :
    s.noGroupWork ∧ s.journal.handed = none := by
  obtain ⟨hwork, hhanded, -⟩ := h
  refine ⟨fun w hw => hb (hwork w hw).2.2, Option.eq_none_iff_forall_ne_some.mpr fun w hw => ?_⟩
  exact hb (hhanded w hw).2

/-- The group states that have no work of their own. -/
def GroupState.rests (g : GroupState) : Bool :=
  match g with
  | .unconfigured | .halted | .idle | .groupOpen | .aborted => true
  | .recovering | .opening | .committing | .rollingBack | .configuring => false

theorem State.threadSound.unengaged (h : s.threadSound) (hg : s.group.state.rests = true) :
    s.unengaged := by
  obtain ⟨hwork, hhanded, hfits, -⟩ := h
  have hstate : ∀ w : GroupWork, s.group.state ≠ w.stateOf := by
    rintro w heq
    rw [heq] at hg
    cases w <;> cases hg
  refine ⟨fun w hw => hstate w (hwork w hw).1, ?_, ?_⟩
  · exact Option.eq_none_iff_forall_ne_some.mpr fun w hw => hstate w (hhanded w hw).1
  · cases hb : s.journal.backward with
    | idle => rfl
    | headerChoice | walk | rollbackDue => simp_all [Backward.fits, GroupState.rests]
    | restoring r =>
      rw [hb] at hfits
      simp only [Backward.fits] at hfits
      rw [hfits] at hg
      split at hg <;> cases hg

/-- What the group work under way says of the rest of the thread. -/
theorem State.threadSound.of_work (h : s.threadSound) {w : GroupWork} (hw : s.doesWork w) :
    s.group.state = w.stateOf ∧ s.journal.handed = none ∧ s.journal.backward = .idle :=
  h.1 w hw

/-! ## Who is free -/

/-- A transfer of the forward activity is for a piece of work of its own. -/
theorem Purpose.fits.forward {p : Purpose} (h : p.fits s) (hp : p.requester = .forward) :
    s.journal.forward ≠ none := by
  intro hnone
  cases p <;> simp only [Purpose.requester, reduceCtorEq] at hp <;>
    simp [Purpose.fits, State.doesWork, hnone] at h

theorem State.carrySound.free_forward (h : s.carrySound) (hf : s.journal.forward = none) :
    s.free .forward :=
  fun t ht hq => (h.2 t ht).forward hq hf

/-- A transfer of the backward activity is for a header choice, a walk or a rollback under way. -/
theorem Purpose.fits.backward {p : Purpose} (h : p.fits s) (hp : p.requester = .backward) :
    s.journal.backward ≠ .idle ∧ s.rollbackDue = false := by
  cases p <;> simp only [Purpose.requester, reduceCtorEq] at hp
  case slotsRead => simp [State.rollbackDue, show _ = _ from h]
  case walkRead =>
    obtain ⟨_, _, h⟩ := h
    simp [State.rollbackDue, h]
  all_goals
    obtain ⟨_, h⟩ := h
    simp [State.rollbackDue, h]

theorem State.carrySound.free_backward (h : s.carrySound)
    (hb : s.journal.backward = .idle ∨ s.rollbackDue = true) : s.free .backward := by
  intro t ht hq
  obtain ⟨hidle, hdue⟩ := (h.2 t ht).backward hq
  rcases hb with hb | hb
  · exact hidle hb
  · simp [hb] at hdue

theorem State.carrySound.free_host (h : s.carrySound)
    (ha : ∀ a, s.host.access = some a → a.phase ≠ .readRequested) : s.free .host := by
  rintro ⟨p, _, _⟩ ht hq
  cases p <;> cases hq
  obtain ⟨a, haccess, hphase⟩ := h.2 _ ht
  exact ha a haccess hphase

theorem State.carrySound.free_link (h : s.carrySound) (hl : s.link.read = .none) :
    s.free .link := by
  rintro ⟨p, _, _⟩ ht hq
  cases p <;> cases hq
  exact h.2 _ ht hl

/-- The anchor unit is free while it neither loads nor writes (R88, R91). -/
theorem State.carrySound.free_anchor (h : s.carrySound) (hload : ¬ Purpose.fits .anchorLoad s)
    (hjob : ∀ j, s.anchor.job = some j → j.store = true →
      j.stage ≠ .clearingSlots ∧ ∀ k, j.stage ≠ .writingAnchor k) : s.free .anchor := by
  rintro ⟨p, _, _⟩ ht hq
  cases p <;> cases hq
  case anchorLoad => exact hload (h.2 _ ht)
  case slotClear =>
    obtain ⟨j, hj, hstore, hstage⟩ := h.2 _ ht
    exact (hjob j hj hstore).1 hstage
  case anchorWrite =>
    obtain ⟨j, k, hj, hstore, hstage⟩ := h.2 _ ht
    exact (hjob j hj hstore).2 k hstage

/-- The scanner is free while no scan is in progress, but for a read to be discarded (R156). -/
theorem State.carrySound.free_scanner (h : s.carrySound) (hscan : s.scanner.scan = .none)
    (hflight : s.inFlightIs .scanRead = false) : s.free .scanner := by
  rintro ⟨p, _, _⟩ ht hq
  cases p <;> cases hq
  rcases h.2 _ ht with hscans | ⟨-, hflies⟩
  · exact hscans hscan
  · simp [hflight] at hflies

end
end Sys2Proof.Machine

/-! # Proofs: what every operation keeps of the saved-block set, the work and the reservations

Three statements in one relation, as each command's meaning is one chain of operations: the
saved-block set stays a set of at most 32 blocks (R32), the work in progress stays sound, and while
it is sound the reservations stay sound (R33, R34). Each rule takes what was reached before an
operation to what is reached after it; what an operation asks of the state before it holds by the
soundness of the work at the start. -/

namespace Sys2Proof.Machine

set_option Elab.async false

/-- From `s` to `t` the saved-block set stays sound; and so does the work in progress, and with it
the reservations. -/
def State.keepsSound (s t : State) : Prop :=
  (s.savedSound → t.savedSound) ∧ (s.workSound → t.workSound) ∧
    (s.workSound → s.reservationSound → t.reservationSound)

section
variable {s s' t : State}

theorem State.keepsSound.refl (s : State) : s.keepsSound s := ⟨id, id, fun _ => id⟩

theorem State.keepsSound.work (h : s.keepsSound s') (hw : s.workSound) : s'.workSound := h.2.1 hw

theorem State.keepsSound.carry (h : s.keepsSound s') (hw : s.workSound) : s'.carrySound :=
  (h.work hw).carry

theorem State.keepsSound.thread (h : s.keepsSound s') (hw : s.workSound) : s'.threadSound :=
  (h.work hw).thread

/-- Either branch of a condition, the condition given. -/
theorem State.keepsSound.dite {c : Prop} {_ : Decidable c} {a b : State}
    (ha : c → s.keepsSound a) (hb : ¬ c → s.keepsSound b) :
    s.keepsSound (if c then a else b) := by
  split
  · exact ha ‹_›
  · exact hb ‹_›

theorem State.keepsSound.ite {c : Prop} {_ : Decidable c} {a b : State}
    (ha : s.keepsSound a) (hb : s.keepsSound b) : s.keepsSound (if c then a else b) :=
  .dite (fun _ => ha) fun _ => hb

/-! ## Reservations -/

/-- A retirement under way is of the head entry, and no abort has removed it (R41, R56). -/
def State.retiresHead (s : State) : Prop :=
  ∀ e r, s.journal.forward = some (.retire e r) → r = false ∧ s.queue.head? = some e

theorem State.retiresHead_of_none (h : s.journal.forward = none) : s.retiresHead := by
  simp [State.retiresHead, h]

theorem State.retiresHead_of_work {w : GroupWork} {k : Nat}
    (h : s.journal.forward = some (.groupWork w k)) : s.retiresHead := by
  simp [State.retiresHead, h]

/-- Only a rollback that is due finds the retirement of a removed entry (R41, R67). -/
theorem State.reservationSound.retiresHead (hr : s.reservationSound)
    (hdue : s.rollbackDue = false) : s.retiresHead := by
  obtain ⟨-, -, -, -, hhead, hremoved, -⟩ := hr
  intro e r he
  cases r with
  | false => exact ⟨rfl, hhead e he⟩
  | true =>
    obtain ⟨-, g, cause, hback⟩ := hremoved e he
    simp [State.rollbackDue, hback] at hdue

theorem State.dataWriting_cases (s : State) :
    s.dataWriting = true ↔ (∃ t, s.port.inFlight = some t ∧ t.purpose = .dataWrite) ∨
      ∃ t, s.port.requests.forward = some t ∧ t.purpose = .dataWrite := by
  rw [State.dataWriting, Bool.or_eq_true, State.inFlightIs_iff]
  refine or_congr_right ?_
  split <;> simp_all

theorem State.dataWriting_congr (hport : t.port = s.port) : t.dataWriting = s.dataWriting := by
  rw [Bool.eq_iff_iff, State.dataWriting_cases, State.dataWriting_cases, hport]

theorem State.owedImages_congr (hwrite : t.dataWriting = s.dataWriting) (hqueue : t.queue = s.queue)
    (haccess : t.accessIs AccessPhase.owesImage = s.accessIs AccessPhase.owesImage) :
    t.owedImages = s.owedImages := by
  simp only [State.owedImages, hwrite, hqueue, haccess]

/-- The reservations after a change of the group state and its thread alone: what is owed stays, and
the rest is asked of the state that results. -/
theorem State.reservationSound.moves (hr : s.reservationSound)
    (hsame : t.port = s.port ∧ t.queue = s.queue ∧ t.host.access = s.host.access ∧
      t.journal.reserved = s.journal.reserved)
    (houtside : t.group.state ≠ .groupOpen → t.group.state ≠ .committing →
      t.journal.reserved = 0)
    (hcapacity : t.group.state.holdsGroup →
      t.journal.written + t.journal.reserved ≤ t.capacity)
    (hsaved : ¬ t.group.state.holdsGroup → t.group.state ≠ .rollingBack → t.journal.saved = [])
    (hretires : t.retiresHead)
    (hcommit : t.doesWork .commit → (∀ e ∈ t.queue, Tag.isGroup e.tag = false) ∧
      t.accessIs AccessPhase.groupWritePending = false) : t.reservationSound := by
  obtain ⟨hport, hqueue, haccess, hreserved⟩ := hsame
  refine ⟨?_, houtside, hcapacity, hsaved, fun e he => (hretires e false he).2,
    fun e he => absurd (hretires e true he).1 (by simp), hcommit⟩
  have haccess : t.accessIs AccessPhase.owesImage = s.accessIs AccessPhase.owesImage := by
    rw [State.accessIs, State.accessIs, haccess]
  rw [State.owedImages_congr (State.dataWriting_congr hport) hqueue haccess, hreserved, hr.1]

/-- A data write in flight or waiting is carried by the port. -/
theorem State.carrySound.dataWriting_iff (h : s.carrySound) :
    s.dataWriting = true ↔ ∃ t, s.carries t ∧ t.purpose = .dataWrite := by
  rw [State.dataWriting_cases]
  constructor
  · rintro (⟨t, ht, hp⟩ | ⟨t, ht, hp⟩)
    · exact ⟨t, .inl ht, hp⟩
    · exact ⟨t, .inr ⟨.forward, ht⟩, hp⟩
  · rintro ⟨t, ht | ⟨q, ht⟩, hp⟩
    · exact .inl ⟨t, ht, hp⟩
    · obtain ⟨hreq, -⟩ := h.1 q t ht
      obtain rfl : .forward = q := by simpa [hp, Purpose.requester] using hreq
      exact .inr ⟨t, ht, hp⟩

theorem State.free.not_dataWriting (hfree : s.free .forward) (h : s.carrySound) :
    s.dataWriting = false := by
  rw [← Bool.not_eq_true, h.dataWriting_iff]
  rintro ⟨t, ht, hp⟩
  exact hfree t ht (by simp [hp, Purpose.requester])

/-- The reservations after a change of the port alone. -/
theorem State.reservationSound.port (hr : s.reservationSound) (p : MemoryPort) (m : Memory)
    (hwrite : State.dataWriting { s with port := p, mem := m } = s.dataWriting)
    (hflight : ∀ e, s.journal.forward = some (.retire e true) → s.inFlightFor .forward = true →
      State.inFlightFor { s with port := p, mem := m } .forward = true) :
    State.reservationSound { s with port := p, mem := m } := by
  obtain ⟨howed, houtside, hcapacity, hsaved, hhead, hremoved, hcommit⟩ := hr
  refine ⟨?_, houtside, hcapacity, hsaved, hhead, fun e he => ?_, hcommit⟩
  · exact (State.owedImages_congr hwrite rfl rfl).trans howed
  · obtain ⟨hflies, hback⟩ := hremoved e he
    exact ⟨hflight e he hflies, hback⟩

/-! ## The port -/

/-- A change of the port and of nothing that a requester is at. -/
theorem State.keepsSound.port (h : s.keepsSound s') (p : MemoryPort) (m : Memory)
    (hcarry : s'.carrySound → State.carrySound { s' with port := p, mem := m })
    (hres : s'.carrySound → s'.reservationSound →
      State.reservationSound { s' with port := p, mem := m }) :
    s.keepsSound { s' with port := p, mem := m } :=
  ⟨h.1, fun hw => (State.workSound_iff _).mpr ⟨hcarry (h.carry hw), h.thread hw⟩,
    fun hw hr => hres (h.carry hw) (h.2.2 hw hr)⟩

theorem State.request_port (t : Transfer) (s : State) :
    ∃ p, State.request t s = { s with port := p, mem := s.mem } := by
  rcases State.request_cases t s with ⟨-, -, heq⟩ | heq
  · exact ⟨_, heq⟩
  · exact ⟨_, heq⟩

theorem State.grant_port (s : State) : ∃ p, State.grant s = { s with port := p, mem := s.mem } := by
  rcases State.grant_cases s with heq | ⟨q, -, -, -, heq⟩
  · exact ⟨_, heq⟩
  · exact ⟨_, heq⟩

/-- A grant and a request leave the transfer in flight where it is. -/
theorem State.request_inFlightFor {q : Requester} (t : Transfer) (h : s.inFlightFor q = true) :
    (State.request t s).inFlightFor q = true := by
  rcases State.request_cases t s with ⟨hport, -, -⟩ | heq
  · simp [State.inFlightFor, hport] at h
  · rw [heq]
    exact h

theorem State.grant_inFlightFor {q : Requester} (h : s.inFlightFor q = true) :
    (State.grant s).inFlightFor q = true := by
  rcases State.grant_cases s with heq | ⟨_, hport, -, -, -⟩
  · rwa [heq]
  · simp [State.inFlightFor, hport] at h

/-- A request by a requester that is free displaces nothing. -/
theorem State.carries_request {t x : Transfer} (h : s.carrySound)
    (hfree : s.free (Purpose.requester t.purpose)) (hx : s.carries x) :
    (State.request t s).carries x := by
  rcases State.request_cases t s with ⟨hport, -, heq⟩ | heq <;> rw [heq]
  · rcases hx with hx | hx
    · simp [hport] at hx
    · exact .inr hx
  · rcases hx with hx | ⟨q, hx⟩
    · exact .inl hx
    · have hq : q ≠ Purpose.requester t.purpose := by
        rintro rfl
        exact hfree x (.inr ⟨_, hx⟩) (h.1 _ x hx).1
      exact .inr ⟨q, (Requests.get_put_other _ _ hq).trans hx⟩

/-- A request changes what is being written only if it asks for a data write. -/
theorem State.request_dataWriting {t : Transfer} (h : s.carrySound)
    (hfree : s.free (Purpose.requester t.purpose)) (hfits : Purpose.fits t.purpose s)
    (hp : t.purpose ≠ .dataWrite) : (State.request t s).dataWriting = s.dataWriting := by
  rw [Bool.eq_iff_iff, (h.request hfree hfits).dataWriting_iff, h.dataWriting_iff]
  constructor
  · rintro ⟨x, hx, hd⟩
    rcases State.carries_of_request hx with hx | rfl
    · exact ⟨x, hx, hd⟩
    · exact absurd hd hp
  · rintro ⟨x, hx, hd⟩
    exact ⟨x, State.carries_request h hfree hx, hd⟩

/-- A free requester asks for a transfer that is for what it is at; a data write is another
matter. -/
theorem State.keepsSound.request (h : s.keepsSound s') (t : Transfer)
    (hp : t.purpose ≠ .dataWrite)
    (hat : s.workSound → s'.free (Purpose.requester t.purpose) ∧ Purpose.fits t.purpose s') :
    s.keepsSound (State.request t s') := by
  obtain ⟨p, heq⟩ := State.request_port t s'
  refine ⟨by simpa [State.savedSound] using h.1, fun hw => ?_, fun hw hr => ?_⟩
  · obtain ⟨hfree, hfits⟩ := hat hw
    refine (State.workSound_iff _).mpr ⟨(h.carry hw).request hfree hfits, ?_⟩
    rw [heq]
    exact h.thread hw
  · obtain ⟨hfree, hfits⟩ := hat hw
    have hwrite := State.request_dataWriting (h.carry hw) hfree hfits hp
    have hflight := fun h' => State.request_inFlightFor (q := .forward) t (s := s') h'
    rw [heq] at hwrite hflight ⊢
    exact (h.2.2 hw hr).port p _ hwrite fun _ _ => hflight

theorem State.keepsSound.grant (h : s.keepsSound s') : s.keepsSound (State.grant s') := by
  obtain ⟨p, heq⟩ := State.grant_port s'
  refine ⟨by simpa [State.savedSound] using h.1, fun hw => ?_, fun hw hr => ?_⟩
  · refine (State.workSound_iff _).mpr ⟨(h.carry hw).grant, ?_⟩
    rw [heq]
    exact h.thread hw
  · have hwrite : (State.grant s').dataWriting = s'.dataWriting := by
      rw [Bool.eq_iff_iff, (h.carry hw).grant.dataWriting_iff, (h.carry hw).dataWriting_iff]
      simp only [State.carries_grant]
    have hflight := fun h' => State.grant_inFlightFor (q := .forward) (s := s') h'
    rw [heq] at hwrite hflight ⊢
    exact (h.2.2 hw hr).port p _ hwrite fun _ _ => hflight

end
end Sys2Proof.Machine

/-! # Proofs: port, scanner, link and host port keep the work and the reservations -/

namespace Sys2Proof.Machine

set_option Elab.async false

section
variable {s s' t : State}

/-! ## Operations on neither -/

theorem State.keepsSound.raise (h : s.keepsSound s') (e : Event) :
    s.keepsSound (State.raise e s') := h

theorem State.keepsSound.startTimeBase (h : s.keepsSound s') :
    s.keepsSound (State.startTimeBase s') := h

theorem State.keepsSound.respond (h : s.keepsSound s') (st : LinkStatus) (data : List Byte) :
    s.keepsSound (State.respond st data s') := h

theorem State.keepsSound.respondAfterFiller (h : s.keepsSound s') (st : LinkStatus)
    (data : List Byte) : s.keepsSound (State.respondAfterFiller st data s') := h

theorem State.keepsSound.answer (h : s.keepsSound s') (i : Instr) (st : LinkStatus)
    (data : List Byte) : s.keepsSound (State.answer i st data s') := h

theorem State.keepsSound.answerInvalid (h : s.keepsSound s') (i : Instr) (r : InvalidReason) :
    s.keepsSound (State.answerInvalid i r s') := h

/-! ## Withdrawals and completions -/

theorem State.keepsSound.withdraw (h : s.keepsSound s') {q : Requester} (hq : q ≠ .forward) :
    s.keepsSound (State.withdraw q s') := by
  refine h.port _ s'.mem (fun hc => (hc.withdraw q).1) fun hc hr =>
    hr.port _ s'.mem ?_ fun _ _ => id
  have hforward : (Requests.put s'.port.requests q none).forward = s'.port.requests.forward :=
    Requests.get_put_other s'.port.requests none hq.symm
  rw [Bool.eq_iff_iff, State.dataWriting_cases, State.dataWriting_cases]
  exact or_congr_right (by rw [hforward])

/-- The purposes of the transfers by which an entry is retired (R38, R39). -/
def Purpose.retires (p : Purpose) : Bool :=
  match p with
  | .blockRead | .imageWrite | .dataWrite => true
  | _ => false

/-- A transfer of a retirement under way. -/
theorem Purpose.fits.retires {p : Purpose} {e : Entry} {r : Bool} (h : p.fits s)
    (hp : p.requester = .forward) (hf : s.journal.forward = some (.retire e r)) :
    p.retires = true := by
  cases p <;> simp only [Purpose.requester, reduceCtorEq] at hp
  case blockRead | imageWrite | dataWrite => rfl
  all_goals simp [Purpose.fits, State.doesWork, hf] at h

/-- A transfer ends, one that is no data write and not that of an entry an abort has removed: what
is owed stays. -/
theorem State.keepsSound.freed (h : s.keepsSound s') {tr : Transfer}
    (ht : s'.port.inFlight = some tr) (m : Memory) (hd : tr.purpose ≠ .dataWrite)
    (hp : tr.purpose.retires = true → ∀ e, s'.journal.forward ≠ some (.retire e true)) :
    s.keepsSound { s' with port.inFlight := none, mem := m } := by
  refine h.port _ _ (fun hc => (hc.freed ht m).1) fun hc hr => hr.port _ _ ?_ fun e he hflight => ?_
  · rw [Bool.eq_iff_iff, State.dataWriting_cases, State.dataWriting_cases]
    simp [ht, hd]
  · obtain ⟨t', ht', hreq⟩ := (s'.inFlightFor_iff _).mp hflight
    obtain rfl := Option.some.inj (ht.symm.trans ht')
    exact absurd he (hp ((hc.2 tr (.inl ht)).retires hreq he) e)

theorem State.keepsSound.completed (h : s.keepsSound s') {tr : Transfer}
    (ht : s'.port.inFlight = some tr) (hp : tr.purpose.retires = false) :
    s.keepsSound (State.completed tr s') := by
  refine h.freed ht _ ?_ (by simp [hp])
  rintro hd
  simp [hd, Purpose.retires] at hp

/-! ## The scanner and the link -/

/-- The scanner takes up a scan, or drops one while it is free. -/
theorem State.keepsSound.setScanner (h : s.keepsSound s') (sc : Scanner)
    (hat : s.workSound → s'.free .scanner ∨ s'.keepsAt { s' with scanner := sc } .scanner) :
    s.keepsSound { s' with scanner := sc } :=
  ⟨h.1, fun hw => (State.workSound_iff _).mpr
    ⟨(h.carry hw).moves { scanner := hat hw }, h.thread hw⟩, h.2.2⟩

theorem Purpose.eq_scanRead {p : Purpose} (h : p.requester = .scanner) : p = .scanRead := by
  cases p <;> cases h
  rfl

theorem State.inFlightFor_scanner (s : State) :
    s.inFlightFor .scanner = s.inFlightIs .scanRead := by
  rw [Bool.eq_iff_iff, State.inFlightFor_iff, State.inFlightIs_iff]
  refine exists_congr fun t => and_congr_right fun _ => ⟨Purpose.eq_scanRead, ?_⟩
  rintro h
  rw [h, Purpose.requester]

theorem State.keepsSound.requestScanRead (h : s.keepsSound s')
    (hfree : s.workSound → s'.inFlightIs .scanRead = false → s'.free .scanner) :
    s.keepsSound (State.requestScanRead s') := by
  refine .dite (fun _ => h) fun hscan => h.request _ (by simp) fun hw => ?_
  obtain ⟨hscans, hflight⟩ := not_or.mp hscan
  exact ⟨hfree hw (by simpa using hflight), .inl hscans⟩

/-- A scan starts where none is in progress (R152, R154). -/
theorem State.keepsSound.startScan (h : s.keepsSound s') {kind : ScanKind} (hkind : kind ≠ .none)
    (region : Nat) (hnone : s'.scanner.scan = .none) :
    s.keepsSound (State.startScan kind region s') := by
  refine .requestScanRead (h.setScanner _ fun _ => .inr fun _ => .inl hkind) fun hw hflight => ?_
  exact (h.carry hw).free_scanner hnone hflight

theorem State.carrySound.raiseDiscard (h : s.carrySound) (d : Bool) :
    State.carrySound { s with port.discard := s.port.discard || d } := by
  refine ⟨h.1, fun x hx => Purpose.fits_of_keepsAt ?_ (h.2 x hx)⟩
  refine State.keepsAt_port _ s.mem fun _ hscan => ?_
  rcases hscan with hscans | ⟨hdiscard, hflight⟩
  · exact .inl hscans
  · exact .inr ⟨by simp [hdiscard], hflight⟩

/-- An abandoned scan has a read in flight at most, and its words will be discarded (R156). -/
theorem State.keepsSound.abandonScan (h : s.keepsSound s') :
    s.keepsSound (State.abandonScan s') := by
  refine .dite (fun _ => h) fun _ => ?_
  have hwithdrawn := h.withdraw (q := .scanner) (by simp)
  have hmarked := hwithdrawn.port
    { (State.withdraw .scanner s').port with
      discard := s'.port.discard || s'.inFlightIs .scanRead } s'.mem
    (fun hc => hc.raiseDiscard _) fun _ hr => hr.port _ _ rfl fun _ _ => id
  refine hmarked.setScanner { s'.scanner with scan := .none } fun hw => ?_
  cases hflight : s'.inFlightIs .scanRead with
  | true => exact .inr fun _ => .inr ⟨Bool.or_true _, hflight⟩
  | false => exact .inl (((h.carry hw).withdraw .scanner).2 (s'.inFlightFor_scanner.trans hflight))

theorem State.keepsSound.idleScanner (h : s.keepsSound s') :
    s.keepsSound (State.idleScanner s') := by
  have hidle := h.abandonScan
  exact hidle

theorem State.keepsSound.startDueScan (h : s.keepsSound s') :
    s.keepsSound (State.startDueScan s') := by
  unfold State.startDueScan
  refine .dite (fun hdue => ?_) fun _ => h
  simp only [Bool.and_eq_true, beq_iff_eq] at hdue
  obtain ⟨⟨-, hnone⟩, -⟩ := hdue
  split
  · exact .startScan (by exact h) (by simp) _ hnone
  · exact h

/-- The link's journal read ends: the link is free (R174). -/
theorem State.keepsSound.endLinkRead (h : s.keepsSound s') (st : LinkStatus) (data : List Byte)
    (hfree : s.workSound → s'.free .link) : s.keepsSound (State.endLinkRead st data s') := by
  have hended : s.keepsSound { s' with link.read := .none } :=
    ⟨h.1, fun hw => (State.workSound_iff _).mpr
      ⟨(h.carry hw).moves { link := .inl (hfree hw) }, h.thread hw⟩, h.2.2⟩
  have hsettled : s.keepsSound (State.settleReadStatus st { s' with link.read := .none }) :=
    .ite hended hended
  unfold State.endLinkRead
  dsimp only
  split
  · exact hsettled.respondAfterFiller st data
  · exact hsettled

/-! ## The access on the host bus -/

theorem State.accessIs_of_some {a : Access} (h : s.host.access = some a)
    (test : AccessPhase → Bool) : s.accessIs test = test a.phase := by
  simp [State.accessIs, h]

theorem State.accessIs_of_none (h : s.host.access = none) (test : AccessPhase → Bool) :
    s.accessIs test = false := by
  simp [State.accessIs, h]

/-- The reservations after a change of the access alone, one that owes as before. -/
theorem State.reservationSound.host (hr : s.reservationSound) (x : HostPort)
    (howes : State.accessIs { s with host := x } AccessPhase.owesImage =
      s.accessIs AccessPhase.owesImage)
    (hpending : s.doesWork .commit →
      State.accessIs { s with host := x } AccessPhase.groupWritePending = true →
        s.accessIs AccessPhase.groupWritePending = true) :
    State.reservationSound { s with host := x } := by
  obtain ⟨howed, houtside, hcapacity, hsaved, hhead, hremoved, hcommit⟩ := hr
  have howed' := State.owedImages_congr (s := s) (t := { s with host := x }) rfl rfl howes
  refine ⟨howed'.trans howed, houtside, hcapacity, hsaved, hhead, hremoved, fun hw => ?_⟩
  obtain ⟨hqueue, haccess⟩ := hcommit hw
  exact ⟨hqueue, Bool.eq_false_iff.mpr fun hp => by simp [hpending hw hp] at haccess⟩

/-- The access takes another phase, or leaves the port. -/
theorem State.keepsSound.setHost (h : s.keepsSound s') (x : HostPort)
    (hat : s.workSound → s'.free .host ∨ s'.keepsAt { s' with host := x } .host)
    (hres : s.workSound → s'.reservationSound → State.reservationSound { s' with host := x }) :
    s.keepsSound { s' with host := x } :=
  ⟨h.1, fun hw => (State.workSound_iff _).mpr
    ⟨(h.carry hw).moves { host := hat hw }, h.thread hw⟩, fun hw hr => hres hw (h.2.2 hw hr)⟩

theorem State.accessIs_markRelease (s : State) (test : AccessPhase → Bool)
    (htest : ∀ d, test (.held d) = false) :
    (State.markRelease s).accessIs test = s.accessIs test := by
  cases ha : s.host.access with
  | none => simp [State.accessIs, State.markRelease, ha]
  | some a =>
    simp only [State.accessIs, State.markRelease, ha, Option.map_some]
    cases a.phase <;> simp [AccessPhase.markRelease, htest]

/-- A moment of release concerns a held access only (R137). -/
theorem State.keepsSound.markRelease (h : s.keepsSound s') :
    s.keepsSound (State.markRelease s') := by
  refine h.setHost _ (fun _ => .inr ?_) fun _ hr => hr.host _ ?_ fun _ hp => ?_
  · rintro ⟨a, ha, hphase⟩
    exact ⟨_, congrArg (Option.map _) ha, by simp [hphase, AccessPhase.markRelease]⟩
  · exact s'.accessIs_markRelease _ fun _ => rfl
  · exact (s'.accessIs_markRelease AccessPhase.groupWritePending fun _ => rfl).symm.trans hp

/-- The port carries no access that holds a claim on an image or has asked for its words. -/
def State.accessUnserved (s : State) : Prop :=
  s.accessIs AccessPhase.owesImage = false ∧
    ∀ a, s.host.access = some a → a.phase ≠ .readRequested

theorem State.accessUnserved_of_none (h : s.host.access = none) : s.accessUnserved :=
  ⟨State.accessIs_of_none h _, by simp [h]⟩

theorem State.accessUnserved_of_some {a : Access} (h : s.host.access = some a)
    (howes : a.phase.owesImage = false) (hread : a.phase ≠ .readRequested) : s.accessUnserved := by
  refine ⟨(State.accessIs_of_some h _).trans howes, fun a' ha' => ?_⟩
  obtain rfl := Option.some.inj (h.symm.trans ha')
  exact hread

/-- The access takes a phase that owes no image; one of a group write, in OPEN only. -/
theorem State.keepsSound.setPhase (h : s.keepsSound s') (hun : s'.accessUnserved) (a : Access)
    {p : AccessPhase} (howes : p.owesImage = false)
    (hpending : p.groupWritePending = true → s'.group.state = .groupOpen) :
    s.keepsSound (State.setPhase a p s') := by
  refine h.setHost _ (fun hw => .inl ((h.carry hw).free_host hun.2)) fun hw hr =>
    hr.host _ ?_ fun hwork hp => ?_
  · exact howes.trans hun.1.symm
  · have hstate := ((h.thread hw).of_work hwork).1
    rw [hpending hp] at hstate
    cases hstate

theorem State.keepsSound.refuseAccess (h : s.keepsSound s') (hun : s'.accessUnserved) (a : Access)
    (reason : RefusalReason) : s.keepsSound (State.refuseAccess reason a s') := by
  have hrefused := h.setPhase hun a (p := .refused reason) rfl nofun
  exact hrefused

theorem State.keepsSound.post (h : s.keepsSound s') (hun : s'.accessUnserved) (a : Access)
    {p : Post} (howes : Tag.owesImage p.tag = false)
    (hgroup : Tag.isGroup p.tag = true → s'.group.state = .groupOpen) :
    s.keepsSound (State.post a p s') := by
  unfold State.post
  split
  · exact h.setPhase hun a howes hgroup
  · exact h.setPhase hun a howes hgroup

theorem State.keepsSound.requestHostRead (h : s.keepsSound s') (hun : s'.accessUnserved)
    (a : Access) : s.keepsSound (State.requestHostRead a s') := by
  refine .request (h.setPhase hun a (p := .readRequested) rfl nofun) _ (by simp) fun hw => ?_
  exact ⟨(h.carry hw).free_host hun.2, _, rfl, rfl⟩

end
end Sys2Proof.Machine

/-! # Proofs: the changes of the group state keep the work and the reservations -/

namespace Sys2Proof.Machine

set_option Elab.async false

section
variable {s s' t : State}

/-! ## What the work says of the group state -/

/-- The backward activity is at something in RECOVERING and ROLLING BACK only (R67, R103). -/
theorem State.threadSound.state_of_backward (h : s.threadSound)
    (hb : s.journal.backward ≠ .idle) :
    s.group.state = .recovering ∨ s.group.state = .rollingBack := by
  have hfits := h.2.2.1
  cases hback : s.journal.backward with
  | idle => exact absurd hback hb
  | headerChoice | walk => exact .inl (by simpa [hback, Backward.fits] using hfits)
  | rollbackDue => exact .inr (by simpa [hback, Backward.fits] using hfits : _ ∧ _).1
  | restoring r =>
    simp only [hback, Backward.fits] at hfits
    split at hfits
    · exact .inl hfits
    · exact .inr hfits

theorem State.threadSound.not_rollbackDue (h : s.threadSound)
    (hg : s.group.state ≠ .rollingBack) : s.rollbackDue = false := by
  rw [← Bool.not_eq_true, State.rollbackDue_iff]
  rintro ⟨g, cause, hback⟩
  have hfits := h.2.2.1
  rw [hback] at hfits
  exact hg hfits.1

theorem State.unengaged.not_rollbackDue (h : s.unengaged) : s.rollbackDue = false := by
  simp [State.rollbackDue, h.2.2]

/-- Outside OPEN and COMMITTING nothing is reserved (R33). -/
theorem State.reservationSound.reserved_zero (h : s.reservationSound)
    (ho : s.group.state ≠ .groupOpen) (hc : s.group.state ≠ .committing) :
    s.journal.reserved = 0 :=
  h.2.1 ho hc

/-- Outside a group the saved-block set is empty (R32). -/
theorem State.reservationSound.saved_nil (h : s.reservationSound)
    (hg : ¬ s.group.state.holdsGroup) (hr : s.group.state ≠ .rollingBack) : s.journal.saved = [] :=
  h.2.2.2.1 hg hr

/-- The anchor unit is free outside RECOVERING and CONFIGURING (R88, R91). -/
theorem State.workSound.free_anchor (h : s.workSound) (hr : s.group.state ≠ .recovering)
    (hc : s.group.state ≠ .configuring) : s.free .anchor :=
  h.carry.free_anchor (fun hl => hr hl.1) (by simp [h.thread.job_none hc])

/-! ## A move to a state in which no image is owed -/

/-- The group state and its thread move on to a state that forms no group: nothing is owed. -/
theorem State.keepsSound.settles (h : s.keepsSound s')
    (hwork : s.workSound → s'.movesOn t ∧ t.threadSound)
    (hsame : t.queue = s'.queue ∧ t.host.access = s'.host.access)
    (hset : t.journal.saved = s'.journal.saved ∨ t.journal.saved = [])
    (hgroup : s.workSound → ¬ t.group.state.holdsGroup)
    (hres : s.workSound → s.reservationSound → s'.journal.reserved = 0 ∧
      t.journal.reserved = 0 ∧ (t.group.state ≠ .rollingBack → t.journal.saved = []) ∧
      t.retiresHead) : s.keepsSound t := by
  obtain ⟨hqueue, haccess⟩ := hsame
  refine ⟨fun hs => ?_, fun hw => ?_, fun hw hr => ?_⟩
  · rcases hset with hset | hset
    · simpa only [State.savedSound, hset] using h.1 hs
    · simp [State.savedSound, hset]
  · obtain ⟨hmoves, hthread⟩ := hwork hw
    exact (State.workSound_iff _).mpr ⟨(h.carry hw).moves hmoves, hthread⟩
  · obtain ⟨hmoves, hthread⟩ := hwork hw
    have hr' := h.2.2 hw hr
    obtain ⟨hzero, hzero', hempty, hretires⟩ := hres hw hr
    refine hr'.moves ⟨hmoves.port, hqueue, haccess, hzero'.trans hzero.symm⟩ (fun _ _ => hzero')
      (fun hg => absurd hg (hgroup hw)) (fun _ => hempty) hretires fun hcommit => ?_
    exact absurd (.inr (.inr (hthread.of_work hcommit).1)) (hgroup hw)

/-- The thread moves on within the group state. -/
theorem State.keepsSound.setThread (h : s.keepsSound s') (handed : Option GroupWork)
    (forward : Option ForwardWork) (backward : Backward)
    (hwork : s.workSound →
      s'.movesOn { s' with
        journal.handed := handed, journal.forward := forward, journal.backward := backward } ∧
      State.threadSound { s' with
        journal.handed := handed, journal.forward := forward, journal.backward := backward })
    (hres : s.workSound → s.reservationSound →
      State.retiresHead { s' with journal.forward := forward } ∧
      (State.doesWork { s' with journal.forward := forward } .commit →
        (∀ e ∈ s'.queue, Tag.isGroup e.tag = false) ∧
          s'.accessIs AccessPhase.groupWritePending = false)) :
    s.keepsSound { s' with
      journal.handed := handed, journal.forward := forward, journal.backward := backward } := by
  refine ⟨h.1, fun hw => ?_, fun hw hr => ?_⟩
  · obtain ⟨hmoves, hthread⟩ := hwork hw
    exact (State.workSound_iff _).mpr ⟨(h.carry hw).moves hmoves, hthread⟩
  · have hr' := h.2.2 hw hr
    obtain ⟨hretires, hcommit⟩ := hres hw hr
    obtain ⟨-, houtside, hcapacity, hsaved, -⟩ := hr'
    exact (h.2.2 hw hr).moves ⟨rfl, rfl, rfl, rfl⟩ houtside hcapacity hsaved hretires hcommit

/-! ## Entries to the group states -/

/-- Entry to OPENING, with nothing owed (R10). -/
theorem State.keepsSound.enterOpening (h : s.keepsSound s')
    (hg : s.workSound → s'.group.state = .idle ∨ s'.group.state = .committing)
    (hun : s.workSound → s'.unengaged)
    (hzero : s.workSound → s.reservationSound → s'.journal.reserved = 0) :
    s.keepsSound (State.enterOpening s') := by
  refine State.keepsSound.markRelease (s' := { s' with
    journal.saved := [], journal.written := 0, journal.reserved := 0, group.duration := 0,
    journal.handed := some .opening, group.state := .opening })
    ⟨fun _ => by simp [State.savedSound], fun hw => (State.workSound_iff _).mpr ⟨?_, ?_⟩,
      fun hw hr => ?_⟩
  · have hg := hg hw
    exact (h.carry hw).moves { anchor := .inr ⟨fun hl => by simp [hl.1] at hg, rfl⟩ }
  · have hg := hg hw
    obtain ⟨hwork, -, hback⟩ := hun hw
    have hjob := (h.thread hw).job_none fun hc => by simp [hc] at hg
    exact State.threadSound_of_handed hwork rfl hback rfl
      (State.jobFits_of_none (by simp) hjob) (by simp [hjob])
  · have hr' := h.2.2 hw hr
    have hretires := hr'.retiresHead (hun hw).not_rollbackDue
    exact hr'.moves ⟨rfl, rfl, rfl, (hzero hw hr).symm⟩ (fun _ _ => rfl) (fun _ => Nat.zero_le _)
      (fun _ _ => rfl) hretires fun hcommit => absurd hcommit ((hun hw).1 _)

/-- Entry to IDLE (R6): with GRP high the bridge goes on to OPENING. -/
theorem State.keepsSound.enterIdle
    (h : s.keepsSound { s' with group.openPending := false, group.state := .idle }) :
    s.keepsSound (State.enterIdle s') := by
  have hidle : s.keepsSound
      { State.renewScanner s' with group.openPending := false, group.state := .idle } := by
    unfold State.renewScanner
    split
    · exact h
    · exact h
  refine .ite ?_ hidle.markRelease
  refine .enterOpening hidle.markRelease (fun _ => .inl rfl) (fun hw => ?_) fun hw hr => ?_
  · exact (hidle.markRelease.thread hw).unengaged rfl
  · exact (hidle.2.2 hw hr).reserved_zero nofun nofun

/-- Entry to COMMITTING from a group that is being formed (R12). -/
theorem State.keepsSound.enterCommitting (h : s.keepsSound s')
    (hg : s.workSound → s'.group.state = .opening ∨ s'.group.state = .groupOpen)
    (hun : s.workSound → s'.unengaged) : s.keepsSound (State.enterCommitting s') := by
  refine State.keepsSound.markRelease (s' := { s' with
    journal.handed := some .commit, group.state := .committing })
    ⟨h.1, fun hw => (State.workSound_iff _).mpr ⟨?_, ?_⟩, fun hw hr => ?_⟩
  · have hg := hg hw
    exact (h.carry hw).moves { anchor := .inr ⟨fun hl => by simp [hl.1] at hg, rfl⟩ }
  · have hg := hg hw
    obtain ⟨hwork, -, hback⟩ := hun hw
    have hjob := (h.thread hw).job_none fun hc => by simp [hc] at hg
    exact State.threadSound_of_handed hwork rfl hback rfl
      (State.jobFits_of_none (by simp) hjob) (by simp [hjob])
  · have hr' := h.2.2 hw hr
    have hretires := hr'.retiresHead (hun hw).not_rollbackDue
    obtain ⟨-, -, hcapacity, -⟩ := hr'
    exact (h.2.2 hw hr).moves ⟨rfl, rfl, rfl, rfl⟩ (fun _ hc => absurd rfl hc)
      (fun _ => hcapacity ((hg hw).imp_right .inl)) (fun hn => absurd (.inr (.inr rfl)) hn) hretires
      fun hcommit => absurd hcommit ((hun hw).1 _)

/-- Entry to OPEN from OPENING (R11). -/
theorem State.keepsSound.enterOpen (h : s.keepsSound s')
    (hg : s.workSound → s'.group.state = .opening)
    (hun : s.workSound → s'.unengaged) : s.keepsSound (State.enter .groupOpen s') := by
  refine State.keepsSound.markRelease (s' := { s' with group.state := .groupOpen })
    ⟨h.1, fun hw => (State.workSound_iff _).mpr ⟨?_, ?_⟩, fun hw hr => ?_⟩
  · have hg := hg hw
    exact (h.carry hw).moves { anchor := .inr ⟨fun hl => by simp [hl.1] at hg, rfl⟩ }
  · have hjob := (h.thread hw).job_none (by simp [hg hw])
    exact State.threadSound_of_unengaged (hun hw) (State.jobFits_of_none (by simp) hjob)
  · have hr' := h.2.2 hw hr
    have hretires := hr'.retiresHead (hun hw).not_rollbackDue
    obtain ⟨-, -, hcapacity, -⟩ := hr'
    exact (h.2.2 hw hr).moves ⟨rfl, rfl, rfl, rfl⟩ (fun ho => absurd rfl ho)
      (fun _ => hcapacity (.inl (hg hw))) (fun hn => absurd (.inr (.inl rfl)) hn) hretires
      fun hcommit => absurd hcommit ((hun hw).1 _)

/-! ## The backward activity -/

/-- The backward activity can take up something: it and the anchor unit are free, and no group work
is handed over or under way (R37, R67, R102). -/
structure State.backwardReady (s : State) : Prop where
  backward : s.free .backward
  anchor : s.free .anchor
  work : s.noGroupWork
  handed : s.journal.handed = none

/-- While the backward activity is at something, the anchor unit is free. -/
theorem State.workSound.backwardReady (h : s.workSound) (hfree : s.free .backward)
    (hb : s.journal.backward ≠ .idle) : s.backwardReady := by
  obtain ⟨hwork, hhanded⟩ := h.thread.of_backward hb
  have hconf : s.group.state ≠ .configuring := by
    rcases h.thread.state_of_backward hb with hg | hg <;> simp [hg]
  exact ⟨hfree, h.carry.free_anchor (fun hl => hb hl.2.1) (by simp [h.thread.job_none hconf]),
    hwork, hhanded⟩

/-- The backward activity takes up something of the group state's own. -/
theorem State.keepsSound.setBackward (h : s.keepsSound s') (b : Backward)
    (hready : s.workSound → s'.backwardReady ∧ b.fits s'.group.state)
    (hretires : s.workSound → s.reservationSound → s'.retiresHead) :
    s.keepsSound { s' with journal.backward := b } := by
  refine h.setThread s'.journal.handed s'.journal.forward b (fun hw => ?_) fun hw hr => ?_
  · obtain ⟨hready, hfits⟩ := hready hw
    refine ⟨{ backward := .inl hready.backward, anchor := .inl hready.anchor }, ?_⟩
    exact State.threadSound_of_backward hready.work hready.handed hfits (h.thread hw).jobFits
  · exact ⟨hretires hw hr, fun hcommit => absurd hcommit ((hready hw).1.work _)⟩

theorem State.keepsSound.requestUndone (h : s.keepsSound s') (r : Rollback)
    (hready : s.workSound → s'.backwardReady ∧ (Backward.restoring r).fits s'.group.state)
    (hretires : s.workSound → s.reservationSound → s'.retiresHead) :
    s.keepsSound (State.requestUndone r s') :=
  .request (h.setBackward _ hready hretires) _ (by simp)
    fun hw => ⟨(hready hw).1.backward, _, rfl⟩

/-- A rollback starts in the group state its cause belongs to (R66, R110). -/
theorem State.keepsSound.startRollback (h : s.keepsSound s') (g : Nat) (cause : Cause) (w : Nat)
    (hready : s.workSound → s'.backwardReady ∧
      s'.group.state = if cause = .recovery then .recovering else .rollingBack)
    (hretires : s.workSound → s.reservationSound → s'.retiresHead) :
    s.keepsSound (State.startRollback g cause w s') := by
  refine .ite (h.requestUndone _ hready hretires) ?_
  exact .request (h.setBackward (.restoring _) (by exact hready) hretires) _ (by simp)
    fun hw => ⟨(hready hw).1.backward, _, rfl⟩

theorem State.haltJournal_eq (cause : UnreadableCause) (offset : Nat) (s : State) :
    State.haltJournal cause offset s =
      State.markRelease (State.raise (.journalUnreadable cause offset) (State.idleScanner
        { s with
          group.state := .halted, journal.saved := [], journal.written := 0,
          journal.reserved := 0, journal.header := none, journal.backward := .idle })) := by
  unfold State.haltJournal State.idleScanner State.abandonScan
  split <;> rfl

/-- Entry to HALTED from a header choice, a walk or a rollback under way (R69, R104, R109). -/
theorem State.keepsSound.haltJournal (h : s.keepsSound s') (cause : UnreadableCause)
    (offset : Nat) (hback : s.workSound → s'.free .backward ∧ s'.journal.backward ≠ .idle ∧
      s'.rollbackDue = false) :
    s.keepsSound (State.haltJournal cause offset s') := by
  rw [State.haltJournal_eq]
  have hhalts : s.keepsSound { s' with
      group.state := .halted, journal.saved := [], journal.written := 0, journal.reserved := 0,
      journal.header := none, journal.backward := .idle } := by
    refine h.settles (fun hw => ?_) ⟨rfl, rfl⟩ (.inr rfl) (by simp [GroupState.holdsGroup])
      fun hw hr => ?_
    · obtain ⟨hfree, hb, -⟩ := hback hw
      have hready := (h.work hw).backwardReady hfree hb
      have hconf : s'.group.state ≠ .configuring := by
        rcases (h.thread hw).state_of_backward hb with hg | hg <;> simp [hg]
      refine ⟨{ backward := .inl hready.backward, anchor := .inl hready.anchor }, ?_⟩
      exact State.threadSound_of_unengaged ⟨hready.work, hready.handed, rfl⟩
        (State.jobFits_of_none (by simp) ((h.thread hw).job_none hconf))
    · obtain ⟨-, hb, hdue⟩ := hback hw
      have hstate := (h.thread hw).state_of_backward hb
      have hr' := h.2.2 hw hr
      exact ⟨hr'.reserved_zero (by rintro ho; simp [ho] at hstate)
        (by rintro hc; simp [hc] at hstate), rfl, fun _ => rfl, hr'.retiresHead hdue⟩
  exact (hhalts.idleScanner.raise _).markRelease

end
end Sys2Proof.Machine

/-! # Proofs: the host port and the abort keep the work and the reservations -/

namespace Sys2Proof.Machine

set_option Elab.async false

section
variable {s s' t : State}

/-! ## The host bus port -/

/-- The entries that owe an image (R33). -/
def State.owedEntries (s : State) : Nat :=
  (if s.dataWriting then s.queue.drop 1 else s.queue).countP (fun e => Tag.owesImage e.tag)

theorem State.owedImages_eq {b : Bool} (h : s.accessIs AccessPhase.owesImage = b) :
    s.owedImages = s.owedEntries + b.toNat := by
  rw [State.owedImages, h]
  cases b <;> rfl

/-- A write is a group write in OPEN only (R131). -/
theorem State.groupOpen_of_postGroup {a : Access} (h : State.verdict a s = .postGroup) :
    s.group.state = .groupOpen := by
  have hjournaled : ∀ (strict : Bool) (g : GroupState),
      journaledWrite strict g = .postGroup → g = .groupOpen := by
    intro strict g hg
    cases g <;> cases strict <;> simp_all [journaledWrite]
  have hread : ∀ g : GroupState, journaledRead g ≠ .postGroup := by
    rintro (_ | _) <;> simp [journaledRead]
  have htable : ∀ (g : GroupState) (attr : Attr) (write : Bool),
      tableVerdict g attr write = .postGroup → g = .groupOpen := by
    intro g attr write hg
    cases attr <;> cases write <;> simp only [tableVerdict, reduceCtorEq] at hg
    case journal.false | strict.false => exact absurd hg (hread g)
    all_goals exact hjournaled _ _ hg
  unfold State.verdict at h
  split at h
  · cases h
  · split at h
    · cases h
    · split at h
      · cases h
      · unfold lookupVerdict at h
        split at h
        · cases h
        · split at h <;> cases h
        · cases h
        · exact htable _ _ _ h

/-- A claim on an image is entered: the access owes one more, and one more is reserved (R34). -/
theorem State.keepsSound.claim (h : s.keepsSound s') (hun : s'.accessUnserved) (a : Access)
    {p : AccessPhase} (howes : p.owesImage = true) (hg : s'.group.state = .groupOpen)
    (hfull : s'.journal.written + s'.journal.reserved ≠ s'.capacity) (saved : List SavedBlock)
    (hsaved : s'.savedSound → State.savedSound { s' with journal.saved := saved }) :
    s.keepsSound (State.setPhase a p
      { s' with journal.reserved := s'.journal.reserved + 1, journal.saved := saved }) := by
  refine ⟨fun hs => hsaved (h.1 hs), fun hw => (State.workSound_iff _).mpr ⟨?_, h.thread hw⟩,
    fun hw hr => ?_⟩
  · exact (h.carry hw).moves { host := .inl ((h.carry hw).free_host hun.2) }
  · have hthread := h.thread hw
    obtain ⟨howed, -, hcapacity, -, hhead, hremoved, -⟩ := h.2.2 hw hr
    refine ⟨?_, fun ho => absurd hg ho, fun hh => ?_, fun hn => absurd (.inr (.inl hg)) hn, hhead,
      hremoved, fun hcommit => ?_⟩
    · rw [State.owedImages_eq hun.1] at howed
      rw [State.owedImages_eq (b := true) (by exact howes)]
      exact congrArg (· + 1) howed
    · have hle := hcapacity hh
      exact Nat.lt_of_le_of_ne hle hfull
    · have hstate := (hthread.of_work hcommit).1
      rw [hg] at hstate
      cases hstate

theorem State.inSaved_eq_false_iff (block : Nat) (s : State) :
    State.inSaved block s = false ↔ ∀ b ∈ s.journal.saved, b.block ≠ block := by
  simp [State.inSaved]

/-- The reservation of a group write (R34, R36). -/
theorem State.keepsSound.reserve (h : s.keepsSound s') (hun : s'.accessUnserved) (a : Access)
    (hg : s'.group.state = .groupOpen) : s.keepsSound (State.reserve a s') := by
  refine .dite (fun _ => h.post hun a rfl fun _ => hg) fun hnew =>
    .dite (fun _ => ?_) fun hfull => ?_
  · have hrefused := h.setPhase hun a (p := .refused .journalFull) rfl nofun
    exact hrefused
  · refine h.claim hun a ?_ hg hfull _ fun hs => ?_
    · dsimp only
      split <;> rfl
    · have hfresh := (s'.inSaved_eq_false_iff _).mp (by simpa using hnew)
      obtain ⟨hlength, hpairwise⟩ := hs
      simp only [State.savedSound, decide_eq_true_eq]
      split
      · rename_i hroom
        refine ⟨by simpa [Config.savedPlaces] using hroom, ?_⟩
        exact List.pairwise_append.mpr ⟨hpairwise, List.pairwise_singleton _ _,
          fun x hx y hy => by simpa [List.mem_singleton.mp hy] using hfresh x hx⟩
      · exact ⟨hlength, hpairwise⟩

/-- Classification of an access that the port has not yet served (R130). -/
theorem State.keepsSound.classify (h : s.keepsSound s') (hun : s'.accessUnserved) (a : Access) :
    s.keepsSound (State.classify a s') := by
  unfold State.classify
  cases hv : State.verdict a s' with
  | refuse reason => exact h.refuseAccess hun a reason
  | hold => exact h.setPhase hun a rfl nofun
  | serve => exact .ite (h.setPhase hun a rfl nofun) (h.requestHostRead hun a)
  | postPlain => exact .ite (h.setPhase hun a rfl nofun) (h.post hun a rfl nofun)
  | postGroup =>
    exact .ite (h.setPhase hun a rfl nofun) (h.reserve hun a (State.groupOpen_of_postGroup hv))

/-- A data phase is answered: not the last one, or one of an access that owes nothing. -/
theorem State.keepsSound.answerPhase (h : s.keepsSound s') {a : Access}
    (ha : s'.host.access = some a) (ans : Answer) (received : List Word)
    (hlast : ¬ a.answered + 1 < Access.count a → s'.accessUnserved) :
    s.keepsSound (State.answerPhase a ans received s') := by
  by_cases hmore : a.answered + 1 < Access.count a
  · rw [State.answerPhase, if_pos hmore]
    refine h.setHost _ (fun _ => .inr ?_) fun _ hr => hr.host _ ?_ fun _ hp => ?_
    · rintro ⟨a', ha', hphase⟩
      obtain rfl := Option.some.inj (ha.symm.trans ha')
      exact ⟨_, rfl, hphase⟩
    · exact (State.accessIs_of_some ha AccessPhase.owesImage).symm
    · exact (State.accessIs_of_some ha _).trans hp
  · rw [State.answerPhase, if_neg hmore]
    obtain ⟨howes, hread⟩ := hlast hmore
    refine h.setHost _ (fun hw => .inl ((h.carry hw).free_host hread)) fun _ hr => hr.host _ ?_ ?_
    · exact howes.symm
    · exact fun _ hp => absurd (show false = true from hp) Bool.false_ne_true

/-- While a data write is under way the queue has a head (R56). -/
theorem State.reservationSound.queue_ne_nil (hr : s.reservationSound) (hc : s.carrySound)
    (hd : s.dataWriting = true) : s.queue ≠ [] := by
  obtain ⟨x, hx, hp⟩ := hc.dataWriting_iff.mp hd
  have hfits := hc.2 x hx
  rw [hp] at hfits
  obtain ⟨e, he⟩ := hfits
  rintro hnil
  have hhead := hr.2.2.2.2.1 e he
  simp [hnil] at hhead

/-- An entry at the tail of the queue owes what the access owed that formed it (R48). -/
theorem State.keepsSound.appendEntry (h : s.keepsSound s') {a : Access} {post : Post}
    (ha : s'.host.access = some a) (hphase : a.phase = .forming post) (ans : Answer) (e : Entry)
    (he : e.tag = post.tag) :
    s.keepsSound { s' with host := ⟨none, some ans⟩, queue := s'.queue ++ [e] } := by
  have howes : s'.accessIs AccessPhase.owesImage = Tag.owesImage e.tag := by
    rw [State.accessIs_of_some ha, hphase, he, AccessPhase.owesImage]
  have hread : ∀ a', s'.host.access = some a' → a'.phase ≠ .readRequested := by
    intro a' ha'
    obtain rfl := Option.some.inj (ha.symm.trans ha')
    simp [hphase]
  refine ⟨h.1, fun hw => (State.workSound_iff _).mpr ⟨?_, h.thread hw⟩, fun hw hr => ?_⟩
  · exact (h.carry hw).moves { host := .inl ((h.carry hw).free_host hread) }
  · have hnil := (h.2.2 hw hr).queue_ne_nil (h.carry hw)
    obtain ⟨howed, houtside, hcapacity, hsaved, hhead, hremoved, hcommit⟩ := h.2.2 hw hr
    refine ⟨?_, houtside, hcapacity, hsaved, fun e' he' => ?_, hremoved, fun hwork => ?_⟩
    · rw [State.owedImages_eq howes] at howed
      rw [State.owedImages_eq (b := false) rfl, ← howed, State.owedEntries, State.owedEntries]
      have hone : [e].countP (fun e => Tag.owesImage e.tag) = (Tag.owesImage e.tag).toNat := by
        cases h : Tag.owesImage e.tag <;> simp [h]
      rw [← hone, Bool.toNat_false, Nat.add_zero, ← List.countP_append]
      refine congrArg (List.countP _) ?_
      change (if s'.dataWriting = true then _ else _) = _
      split
      · rename_i hd
        obtain ⟨x, rest, hx⟩ := List.exists_cons_of_ne_nil (hnil hd)
        simp [hx]
      · rfl
    · simp [hhead e' he', List.head?_append]
    · obtain ⟨hqueue, haccess⟩ := hcommit hwork
      refine ⟨fun x hx => ?_, rfl⟩
      rcases List.mem_append.mp hx with hx | hx
      · exact hqueue x hx
      · rw [State.accessIs_of_some ha, hphase, AccessPhase.groupWritePending] at haccess
        rw [List.mem_singleton.mp hx, he, haccess]

theorem State.keepsSound.formingPhase (h : s.keepsSound s') {a : Access} {post : Post}
    (ha : s'.host.access = some a) (hphase : a.phase = .forming post) (data : Word) :
    s.keepsSound (State.formingPhase a post data s') := by
  unfold State.formingPhase
  dsimp only
  split
  · rename_i hmore
    exact h.answerPhase ha _ _ fun hlast => absurd hmore hlast
  · rename_i hlast
    rw [State.answerPhase, if_neg hlast]
    exact h.appendEntry ha hphase _ _ rfl

theorem State.keepsSound.earlyPhase (h : s.keepsSound s') {a : Access}
    (ha : s'.host.access = some a) : s.keepsSound (State.earlyPhase a s') := by
  unfold State.earlyPhase
  split
  · refine .dite (fun hearly => .ite ?_ h) fun _ => h
    exact State.keepsSound.answerPhase (by exact h) ha _ _ fun hlast => absurd hearly.2 hlast
  · exact h

theorem State.keepsSound.takeDataPhase (h : s.keepsSound s') (data : Word) :
    s.keepsSound (State.takeDataPhase data s') := by
  unfold State.takeDataPhase
  split
  · exact h
  · rename_i a ha
    have hun : ∀ p, a.phase = p → p.owesImage = false → p ≠ .readRequested →
        ¬ a.answered + 1 < Access.count a → s'.accessUnserved := by
      rintro _ rfl howes hread -
      exact State.accessUnserved_of_some ha howes hread
    cases hphase : a.phase
    case forming => exact h.formingPhase ha hphase data
    case readRequested => exact h.earlyPhase ha
    case refused | silent | discarding | readDone =>
      exact h.answerPhase ha _ _ (hun _ hphase rfl nofun)
    all_goals exact h

/-- PFAIL withdraws the reservation of a waiting access (R54). -/
theorem State.keepsSound.withdrawReservation (h : s.keepsSound s') {a : Access} {p : Post}
    (ha : s'.host.access = some a) (hphase : a.phase = .waiting p) (reason : RefusalReason) :
    s.keepsSound (State.refuseAccess reason a (State.withdrawReservation a p s')) := by
  have hread : ∀ a', s'.host.access = some a' → a'.phase ≠ .readRequested := by
    intro a' ha'
    obtain rfl := Option.some.inj (ha.symm.trans ha')
    simp [hphase]
  refine ⟨fun hs => ?_, fun hw => (State.workSound_iff _).mpr ⟨?_, h.thread hw⟩, fun hw hr => ?_⟩
  · obtain ⟨hlength, hpairwise⟩ := h.1 hs
    simp only [State.savedSound, State.refuseAccess, State.withdrawReservation, State.raise_journal]
    split
    · exact ⟨(List.length_filter_le _ _).trans hlength, hpairwise.filter _⟩
    · exact ⟨hlength, hpairwise⟩
  · exact (h.carry hw).moves { host := .inl ((h.carry hw).free_host hread) }
  · obtain ⟨howed, houtside, hcapacity, hsaved, hhead, hremoved, hcommit⟩ := h.2.2 hw hr
    have hreserved : (State.withdrawReservation a p s').journal.reserved ≤ s'.journal.reserved := by
      simp only [State.withdrawReservation]
      split <;> omega
    refine ⟨?_, fun ho hc => ?_, fun hg => ?_, fun hg hb => ?_, hhead, hremoved, fun hwork => ?_⟩
    · rw [State.owedImages_eq ((State.accessIs_of_some ha _).trans (by
        rw [hphase, AccessPhase.owesImage])) (b := Tag.owesImage p.tag)] at howed
      have howed' : s'.owedEntries = (State.withdrawReservation a p s').journal.reserved := by
        simp only [State.withdrawReservation, ← howed]
        cases Tag.owesImage p.tag <;> rfl
      exact howed'
    · exact Nat.le_zero.mp (hreserved.trans (houtside ho hc).le)
    · exact (Nat.add_le_add_left hreserved _).trans (hcapacity hg)
    · have hnil : s'.journal.saved = [] := hsaved hg hb
      simp [State.refuseAccess, State.withdrawReservation, hnil]
    · exact ⟨(hcommit hwork).1, rfl⟩

theorem State.keepsSound.powerFailAccess (h : s.keepsSound s') :
    s.keepsSound (State.powerFailAccess s') := by
  unfold State.powerFailAccess
  split
  · exact h
  · rename_i a ha
    cases hphase : a.phase
    case held =>
      exact h.refuseAccess
        (State.accessUnserved_of_some ha (by simp [hphase, AccessPhase.owesImage])
        (by simp [hphase])) a _
    case waiting => exact h.withdrawReservation ha hphase _
    all_goals exact h

theorem State.keepsSound.powerFailScan (h : s.keepsSound s') :
    s.keepsSound (State.powerFailScan s') := by
  have habandoned := h.abandonScan
  exact habandoned

/-- A journal read that waits is dropped: the link has no transfer in flight (R119). -/
theorem State.keepsSound.powerFailLink (h : s.keepsSound s') :
    s.keepsSound (State.powerFailLink s') := by
  unfold State.powerFailLink
  split
  · rename_i tr htr
    refine State.keepsSound.endLinkRead (h.withdraw (by simp)) _ _ fun hw => ?_
    exact ((h.carry hw).withdraw .link).2 ((h.carry hw).1 .link tr htr).2
  · exact h

/-! ## The abort -/

/-- What an abort makes of the forward activity: nothing; the retirement goes on as one of a removed
entry; or it is dropped with its request (R41, R61, R67). -/
theorem State.abortForward_cases (s : State) :
    (State.abortForward s = s ∧ ∀ e r, s.journal.forward = some (.retire e r) →
      Tag.isGroup e.tag = true → s.inFlightIs .dataWrite = true) ∨
    (∃ e r, s.journal.forward = some (.retire e r) ∧ Tag.isGroup e.tag = true ∧
      s.inFlightIs .dataWrite = false ∧ s.inFlightFor .forward = true ∧
      State.abortForward s = { s with journal.forward := some (.retire e true) }) ∨
    (∃ e r, s.journal.forward = some (.retire e r) ∧ Tag.isGroup e.tag = true ∧
      s.inFlightIs .dataWrite = false ∧ s.inFlightFor .forward = false ∧
      State.abortForward s =
        { State.withdraw .forward s with journal.forward := none }) := by
  unfold State.abortForward
  split
  · rename_i e r he
    have hsame : ∀ e' r', s.journal.forward = some (.retire e' r') → e' = e := by
      intro e' r' he'
      obtain ⟨rfl, -⟩ : e = e' ∧ r = r' := by simpa [he] using he'
      rfl
    split
    · rename_i hgroup
      split
      · rename_i hwriting
        exact .inl ⟨rfl, fun _ _ _ _ => hwriting⟩
      · rename_i hwriting
        split
        · rename_i hflight
          exact .inr (.inl ⟨e, r, he, hgroup, by simpa using hwriting, hflight, rfl⟩)
        · rename_i hflight
          exact .inr (.inr ⟨e, r, he, hgroup, by simpa using hwriting, by simpa using hflight, rfl⟩)
    · rename_i hplain
      refine .inl ⟨by rw [← he], fun e' r' he' hgroup => ?_⟩
      exact absurd (hsame e' r' he' ▸ hgroup) hplain
  · rename_i hother
    exact .inl ⟨rfl, fun e r he => absurd he (hother e r)⟩

/-- The abort leaves the port sound: what the forward activity still has in flight goes on. -/
theorem State.carrySound.abortForward (h : s.carrySound) : (State.abortForward s).carrySound := by
  rcases s.abortForward_cases with ⟨heq, -⟩ | ⟨e, r, he, -, hwriting, hflight, heq⟩ |
    ⟨e, r, -, -, -, hflight, heq⟩
  · rwa [heq]
  · rw [heq]
    refine ⟨h.1, fun x hx => ?_⟩
    have hfits := h.2 x hx
    by_cases hq : Purpose.requester x.purpose = .forward
    · have hnot : x.purpose ≠ .dataWrite := by
        rintro hd
        rcases hx with hx | ⟨q, hx⟩
        · exact absurd ((s.inFlightIs_iff _).mpr ⟨x, hx, hd⟩) (by simp [hwriting])
        · obtain ⟨hreq, hfree⟩ := h.1 q x hx
          rw [← hreq, hq, hflight] at hfree
          cases hfree
      have hretires := hfits.retires hq he
      cases hp : x.purpose <;> simp only [hp, Purpose.retires, reduceCtorEq] at hretires
      case dataWrite => exact absurd hp hnot
      case blockRead | imageWrite =>
        rw [hp] at hfits
        obtain ⟨e', r', he', howes⟩ := hfits
        obtain ⟨rfl, -⟩ : e = e' ∧ r = r' := by simpa [he] using he'
        exact ⟨e, true, rfl, howes⟩
    · refine Purpose.fits_of_keepsAt ?_ hfits
      have hload : Purpose.fits .anchorLoad s →
          Purpose.fits .anchorLoad { s with journal.forward := some (.retire e true) } :=
        fun ⟨hg, hb, hh, _⟩ => ⟨hg, hb, hh, State.noGroupWork_of_retire rfl⟩
      cases hreq : Purpose.requester x.purpose with
      | forward => exact absurd hreq hq
      | backward => rfl
      | anchor => exact ⟨hload, rfl⟩
      | host | link | scanner => exact id
  · rw [heq]
    obtain ⟨hcarry, hfree⟩ := h.withdraw .forward
    refine hcarry.moves { forward := .inl (hfree hflight), anchor := .inr ⟨?_, rfl⟩ }
    exact fun ⟨hg, hb, hh, _⟩ => ⟨hg, hb, hh, State.noGroupWork_of_none rfl⟩

theorem Tag.isGroup_of_owesImage {t : Tag} (h : Tag.owesImage t = true) : Tag.isGroup t = true := by
  cases t with
  | plain => cases h
  | group => rfl

/-- What an abort leaves of the access owes no image (R54, R55). -/
theorem abortAccess_owesImage (journaled : Bool) (p : AccessPhase) :
    (abortAccess journaled p).owesImage = false := by
  have hplain : ∀ post : Post, ¬ Tag.isGroup post.tag = true → Tag.owesImage post.tag = false :=
    fun post hp => Bool.eq_false_iff.mpr fun ho => hp (Tag.isGroup_of_owesImage ho)
  cases p with
  | waiting post | forming post =>
    simp only [abortAccess]
    split
    · rfl
    · exact hplain post ‹_›
  | readQueued => cases journaled <;> rfl
  | _ => rfl

theorem abortAccess_readRequested (journaled : Bool) :
    (abortAccess journaled .readRequested) = .readRequested := rfl

/-- The queue after an abort owes no image but for the head whose data write is in flight (R61). -/
theorem countP_removeGroup (writing : Bool) (q : List Entry) (n : Nat)
    (hn : writing = true → 0 < n) :
    ((removeGroup writing q).drop n).countP (fun e => Tag.owesImage e.tag) = 0 := by
  have hfilter : ∀ l : List Entry,
      ∀ x ∈ l.filter (fun x => !Tag.isGroup x.tag), ¬ Tag.owesImage x.tag = true := by
    intro l x hx ho
    simp [Tag.isGroup_of_owesImage ho] at hx
  rw [List.countP_eq_zero]
  intro x hx
  cases q with
  | nil => simp [removeGroup] at hx
  | cons e rest =>
    simp only [removeGroup] at hx
    split at hx
    · obtain ⟨n, rfl⟩ := Nat.exists_eq_succ_of_ne_zero (Nat.pos_iff_ne_zero.mp (hn ‹_›))
      exact hfilter rest x (List.mem_of_mem_drop hx)
    · exact hfilter (e :: rest) x (List.mem_of_mem_drop hx)

/-- The head stays at an abort unless it is the group's and its data write is not in flight
(R61). -/
theorem head?_removeGroup {writing : Bool} {q : List Entry} {e : Entry} (hq : q.head? = some e)
    (he : Tag.isGroup e.tag = true → writing = true) : (removeGroup writing q).head? = some e := by
  cases q with
  | nil => cases hq
  | cons x rest =>
    obtain rfl := Option.some.inj hq
    simp only [removeGroup]
    split
    · rfl
    · rename_i hwriting
      have hplain : Tag.isGroup x.tag = false := by
        simpa using fun hg => hwriting (he hg)
      simp [hplain]

/-- The abort touches nothing of the journal unit but the retirement under way (R41). -/
theorem State.abortForward_journal (s : State) :
    (State.abortForward s).journal =
      { s.journal with forward := (State.abortForward s).journal.forward } := by
  rcases s.abortForward_cases with ⟨heq, -⟩ | ⟨_, _, -, -, -, -, heq⟩ | ⟨_, _, -, -, -, -, heq⟩
  all_goals simp [heq]

theorem State.abortForward_noGroupWork (h : s.noGroupWork) :
    (State.abortForward s).noGroupWork := by
  rcases s.abortForward_cases with ⟨heq, -⟩ | ⟨_, _, -, -, -, -, heq⟩ | ⟨_, _, -, -, -, -, heq⟩
  · rwa [heq]
  · rw [heq]
    exact State.noGroupWork_of_retire rfl
  · rw [heq]
    exact State.noGroupWork_of_none rfl

/-- A data write in flight goes on, and an abort leaves none waiting (R41, R61). -/
theorem State.abortForward_inFlightIs (s : State) (p : Purpose) :
    (State.abortForward s).inFlightIs p = s.inFlightIs p := by
  rcases s.abortForward_cases with ⟨heq, -⟩ | ⟨_, _, -, -, -, -, heq⟩ | ⟨_, _, -, -, -, -, heq⟩
  all_goals simp [heq, State.inFlightIs, State.withdraw]

/-- The state an abort enters, before a held access is released (R61, R66, R137). -/
def State.aborted (cause : Cause) (s : State) : State :=
  { State.abortForward s with
    queue := removeGroup (s.inFlightIs .dataWrite) s.queue
    group := { s.group with state := .rollingBack, closePending := false, openPending := false }
    journal := { (State.abortForward s).journal with
      reserved := 0, backward := .rollbackDue s.groupNumber cause }
    host := { s.host with access := s.host.access.map (fun a =>
      { a with phase := abortAccess (Lookup.journaled (s.lookup (Access.block a))) a.phase }) } }

theorem State.takeAbort_eq (cause : Cause) (s : State) :
    State.takeAbort cause s = State.markRelease (State.aborted cause s) := by
  obtain ⟨-, hgroup, -, hhost, -⟩ := s.abortForward_frame
  simp only [State.takeAbort, State.enter, State.aborted, hgroup, hhost]

theorem State.workSound.aborted (h : s.workSound) (hg : s.group.state = .groupOpen) {cause : Cause}
    (hcause : cause ≠ .recovery) : (State.aborted cause s).workSound := by
  obtain ⟨hwork, hhanded, hback⟩ := h.thread.unengaged (by simp [hg, GroupState.rests])
  obtain ⟨-, hgroup, -, hhost, hanchor, -⟩ := s.abortForward_frame
  have hcarry := h.carry.abortForward
  have hjob := h.thread.job_none (by simp [hg])
  refine (State.workSound_iff _).mpr ⟨hcarry.moves ?_, ?_⟩
  · have hfree := hcarry.free_backward (.inl (by rw [s.abortForward_journal]; exact hback))
    refine { backward := .inl hfree, host := .inr ?_, anchor := .inr ⟨fun hl => ?_, rfl⟩ }
    · rintro ⟨a, ha, hphase⟩
      rw [hhost] at ha
      exact ⟨_, congrArg (Option.map _) ha, by simp [hphase, abortAccess_readRequested]⟩
    · have hstate := hl.1
      rw [hgroup, hg] at hstate
      cases hstate
  · refine State.threadSound_of_backward (State.abortForward_noGroupWork hwork) ?_ ⟨rfl, hcause⟩ ?_
    · exact (congrArg Journal.handed s.abortForward_journal).trans hhanded
    · refine State.jobFits_of_none (show GroupState.rollingBack ≠ _ by simp) ?_
      exact (congrArg AnchorUnit.job hanchor).trans hjob

theorem State.reservationSound.aborted (hr : s.reservationSound) (h : s.workSound)
    (hg : s.group.state = .groupOpen) (cause : Cause) :
    (State.aborted cause s).reservationSound := by
  obtain ⟨hwork, -, hback⟩ := h.thread.unengaged (by simp [hg, GroupState.rests])
  have hretires := hr.retiresHead (by simp [State.rollbackDue, hback])
  have hno : ¬ GroupState.rollingBack.holdsGroup := by simp [GroupState.holdsGroup]
  have haccess : (State.aborted cause s).accessIs AccessPhase.owesImage = false := by
    cases ha : s.host.access with
    | none => simp [State.accessIs, State.aborted, ha]
    | some a => simp [State.accessIs, State.aborted, ha, abortAccess_owesImage]
  refine ⟨?_, fun _ _ => rfl, fun hh => absurd hh hno, fun _ hb => absurd rfl hb, fun e he => ?_,
    fun e he => ?_, fun hw => absurd hw (State.abortForward_noGroupWork hwork _)⟩
  · have hwriting : s.inFlightIs .dataWrite = true → (State.aborted cause s).dataWriting = true :=
      fun hw => Bool.or_eq_true_iff.mpr (.inl ((s.abortForward_inFlightIs _).trans hw))
    have hcount := countP_removeGroup (s.inFlightIs .dataWrite) s.queue
    rw [State.owedImages_eq haccess, State.owedEntries]
    split
    · exact hcount 1 fun _ => Nat.one_pos
    · rename_i hnot
      exact hcount 0 fun hw => absurd (hwriting hw) hnot
  · rcases s.abortForward_cases with ⟨heq, hgo⟩ | ⟨_, _, -, -, -, -, heq⟩ | ⟨_, _, -, -, -, -, heq⟩
    · have he' : s.journal.forward = some (.retire e false) :=
        (congrArg (fun x => x.journal.forward) heq).symm.trans he
      exact head?_removeGroup (hretires e _ he').2 (hgo e _ he')
    · simp [State.aborted, heq] at he
    · simp [State.aborted, heq] at he
  · rcases s.abortForward_cases with ⟨heq, -⟩ | ⟨_, _, -, -, -, hflight, heq⟩ |
      ⟨_, _, -, -, -, -, heq⟩
    · have he' : s.journal.forward = some (.retire e true) :=
        (congrArg (fun x => x.journal.forward) heq).symm.trans he
      exact absurd (hretires e _ he').1 (by simp)
    · refine ⟨?_, s.groupNumber, cause, rfl⟩
      have hport : (State.aborted cause s).port = s.port := by simp [State.aborted, heq]
      simpa only [State.inFlightFor, hport] using hflight
    · simp [State.aborted, heq] at he

/-- An abort is taken in OPEN (R14, R19, R66). -/
theorem State.keepsSound.takeAbort (h : s.keepsSound s') (hg : s'.group.state = .groupOpen)
    {cause : Cause} (hcause : cause ≠ .recovery) : s.keepsSound (State.takeAbort cause s') := by
  rw [State.takeAbort_eq]
  refine State.keepsSound.markRelease ⟨fun hs => ?_, fun hw => (h.work hw).aborted hg hcause,
    fun hw hr => (h.2.2 hw hr).aborted (h.work hw) hg cause⟩
  have hsaved : (State.aborted cause s').journal.saved = s'.journal.saved := by
    rw [State.aborted, s'.abortForward_journal]
  simpa only [State.savedSound, hsaved] using h.1 hs

/-! ## The close of a moment -/

theorem State.keepsSound.takeAgeTimeout (h : s.keepsSound s') :
    s.keepsSound (State.takeAgeTimeout s') := by
  refine .dite (fun hdue => h.takeAbort ?_ (by simp)) fun _ => h
  exact ((s'.ageTimeoutDue_iff).mp hdue).1

theorem State.keepsSound.settle (h : s.keepsSound s') : s.keepsSound (State.settle s') :=
  .grant (.startDueScan (.takeAgeTimeout h))

theorem State.keepsSound.finish (h : s.keepsSound s') : s.keepsSound (State.finish s') := .ite h h

end
end Sys2Proof.Machine

/-! # Proofs: the forward activity keeps the work and the reservations -/

namespace Sys2Proof.Machine

set_option Elab.async false

section
variable {s s' t : State}

/-! ## Group work -/

/-- The group work is handed over or under way. -/
def State.engagedIn (s : State) (w : GroupWork) : Prop :=
  s.journal.handed = some w ∨ s.doesWork w

/-- Group work belongs to the group state, and keeps recovery's load and a store from their own
(R37, R91, R102). -/
theorem State.threadSound.of_engaged (h : s.threadSound) {w : GroupWork} (hw : s.engagedIn w) :
    s.group.state = w.stateOf ∧ s.journal.backward = .idle ∧ ¬ Purpose.fits .anchorLoad s ∧
      ∀ j, s.anchor.job = some j → j.store = true → j.stage = .formatting := by
  obtain ⟨hwork, hhanded, -, -, hstore⟩ := h
  rcases hw with hw | hw
  · obtain ⟨hg, hb⟩ := hhanded w hw
    refine ⟨hg, hb, fun hl => ?_, fun j hj hs => by_contra fun hstage => ?_⟩
    · simp [hl.2.2.1] at hw
    · simp [(hstore j hj hs hstage).1] at hw
  · obtain ⟨hg, -, hb⟩ := hwork w hw
    exact ⟨hg, hb, fun hl => hl.2.2.2 w hw,
      fun j hj hs => by_contra fun hstage => (hstore j hj hs hstage).2 w hw⟩

/-- The forward activity goes on with group work that it holds or takes up; the commit work has
waited for the group's entries (R12, R37). -/
theorem State.keepsSound.doWork (h : s.keepsSound s') {w : GroupWork} (k : Nat)
    {handed : Option GroupWork} (hhanded : s.workSound → handed = none)
    (hw : s.workSound → s'.engagedIn w ∧ s'.free .forward)
    (hcommit : w = .commit → (∀ e ∈ s'.queue, Tag.isGroup e.tag = false) ∧
      s'.accessIs AccessPhase.groupWritePending = false) :
    s.keepsSound
      { s' with journal.handed := handed, journal.forward := some (.groupWork w k) } := by
  refine h.setThread handed _ s'.journal.backward (fun hws => ?_) fun hws hr => ⟨?_, ?_⟩
  · obtain ⟨hengaged, hfree⟩ := hw hws
    obtain ⟨hg, hb, hload, hstore⟩ := (h.thread hws).of_engaged hengaged
    refine ⟨{ forward := .inl hfree, anchor := .inr ⟨fun hl => absurd hl hload, rfl⟩ }, ?_⟩
    exact State.threadSound_of_work rfl (hhanded hws) hb hg (h.thread hws).jobFits hstore
  · exact State.retiresHead_of_work rfl
  · rintro ⟨k', hk'⟩
    obtain ⟨rfl, -⟩ : w = .commit ∧ k = k' := by simpa using hk'
    exact hcommit rfl

/-- The forward activity takes up something that is no group work, or nothing. -/
theorem State.movesOn_forward (f : Option ForwardWork) (hfree : s.free .forward)
    (hno : State.noGroupWork { s with journal.forward := f }) :
    s.movesOn { s with journal.forward := f } where
  forward := .inl hfree
  anchor := .inr ⟨fun ⟨hg, hb, hh, _⟩ => ⟨hg, hb, hh, hno⟩, rfl⟩

theorem State.threadSound.setForward (h : s.threadSound) {f : Option ForwardWork}
    (hno : State.noGroupWork { s with journal.forward := f }) :
    State.threadSound { s with journal.forward := f } := by
  obtain ⟨-, hhanded, hfits, hjob, hstore⟩ := h
  exact ⟨fun w hw => absurd hw (hno w), hhanded, hfits, hjob,
    fun j hj hs hstage => ⟨(hstore j hj hs hstage).1, hno⟩⟩

/-- The forward activity ends its work. -/
theorem State.keepsSound.endWork (h : s.keepsSound s')
    (hfree : s.workSound → s'.free .forward) :
    s.keepsSound { s' with journal.forward := none } := by
  have hno : State.noGroupWork { s' with journal.forward := none } := State.noGroupWork_of_none rfl
  exact h.setThread s'.journal.handed none s'.journal.backward
    (fun hw => ⟨State.movesOn_forward none (hfree hw) hno, (h.thread hw).setForward hno⟩)
    fun _ _ => ⟨State.retiresHead_of_none rfl, fun hc => absurd hc (hno _)⟩

theorem State.keepsSound.requestHeader (h : s.keepsSound s') (p : Purpose) (g hw : Nat)
    (hp : p ≠ .dataWrite) (hat : s.workSound → s'.free p.requester ∧ Purpose.fits p s') :
    s.keepsSound (State.requestHeader p g hw s') := by
  unfold State.requestHeader
  split
  · dsimp only
    exact .request (by exact h) _ hp hat
  · exact h

theorem State.keepsSound.wipeStep (h : s.keepsSound s') (next : Nat)
    (hw : s.workSound → s'.doesWork .opening ∧ s'.free .forward) :
    s.keepsSound (State.wipeStep next s') := by
  have hwork : s.keepsSound { s' with
      journal.forward := some (.groupWork .opening (next + min 8 (s'.highWater - next))) } :=
    h.doWork _ (fun hws => ((h.thread hws).of_work (hw hws).1).2.1)
      (fun hws => ⟨.inr (hw hws).1, (hw hws).2⟩) nofun
  refine .ite (hwork.requestHeader _ _ _ (by simp) fun hws => ?_)
    (hwork.request _ (by simp) fun hws => ?_)
  · exact ⟨(hw hws).2, _, rfl⟩
  · exact ⟨(hw hws).2, _, rfl⟩

theorem State.keepsSound.requestFormat (h : s.keepsSound s') (k : Nat)
    (hw : s.workSound → s'.doesWork .format ∧ s'.free .forward) :
    s.keepsSound (State.requestFormat k s') := by
  refine .request (h.doWork k (fun hws => ((h.thread hws).of_work (hw hws).1).2.1)
    (fun hws => ⟨.inr (hw hws).1, (hw hws).2⟩) nofun) _ (by simp) fun hws => ?_
  exact ⟨(hw hws).2, k, rfl⟩

/-- A piece of group work that is ready begins with its first transfer (R37). -/
theorem State.keepsSound.beginGroupWork (h : s.keepsSound s') {w : GroupWork}
    (hforward : s'.journal.forward = none) (hhanded : s'.journal.handed = some w)
    (hready : State.workReady w s' = true) : s.keepsSound (State.beginGroupWork w s') := by
  have hfree := fun hw => (h.carry hw).free_forward hforward
  have hwork : s.keepsSound
      { s' with journal.handed := none, journal.forward := some (.groupWork w 0) } := by
    refine h.doWork 0 (fun _ => rfl) (fun hw => ⟨.inl hhanded, hfree hw⟩) ?_
    rintro rfl
    simpa [State.workReady] using hready
  have hdoes : State.doesWork
      { s' with journal.handed := none, journal.forward := some (.groupWork w 0) } w := ⟨0, rfl⟩
  unfold State.beginGroupWork
  cases w with
  | format => exact hwork.requestFormat 0 fun hw => ⟨hdoes, hfree hw⟩
  | opening =>
    dsimp only
    split
    · exact h
    · exact .ite (hwork.wipeStep _ fun hw => ⟨hdoes, hfree hw⟩)
        (hwork.requestHeader _ _ _ (by simp) fun hw => ⟨hfree hw, hdoes⟩)
  | commit =>
    dsimp only
    split
    · exact h
    · exact hwork.request _ (by simp) fun hw => ⟨hfree hw, hdoes⟩
  | closeRollback cause n =>
    dsimp only
    split
    · exact h
    · exact hwork.requestHeader _ _ _ (by simp) fun hw => ⟨hfree hw, cause, n, hdoes⟩
  | recoveryRewrite n =>
    dsimp only
    split
    · exact h
    · exact hwork.requestHeader _ _ _ (by simp) fun hw => ⟨hfree hw, n, hdoes⟩
  | closeRecovery n =>
    dsimp only
    split
    · exact h
    · exact hwork.requestHeader _ _ _ (by simp) fun hw => ⟨hfree hw, n, hdoes⟩

/-! ## Retirements -/

theorem State.carries_request_self (t : Transfer) (s : State) : (State.request t s).carries t := by
  rcases State.request_cases t s with ⟨-, -, heq⟩ | heq <;> rw [heq]
  · exact .inl rfl
  · exact .inr ⟨_, Requests.get_put_same _ _ _⟩

/-- The data write of an entry (R38). -/
def Entry.dataWrite (e : Entry) : Transfer :=
  { purpose := .dataWrite, addr := e.block * 4 + e.first, body := .write e.words }

theorem State.requestDataWrite_eq (e : Entry) (s : State) :
    State.requestDataWrite e s = State.request e.dataWrite s := rfl

/-- The head entry owes its image until its data write is under way (R39). -/
theorem State.owedEntries_of_cons {e : Entry} {rest : List Entry} (hq : s.queue = e :: rest) :
    s.owedEntries = rest.countP (fun e => Tag.owesImage e.tag) +
      if s.dataWriting then 0 else (Tag.owesImage e.tag).toNat := by
  rw [State.owedEntries, hq]
  split
  · rfl
  · cases h : Tag.owesImage e.tag <;> simp [h]

/-- The data write of the head entry is asked for: the image it owed is counted no longer (R33,
R39). -/
theorem State.reservationSound_of_dataWrite (hc : s.carrySound) (hfree : s.free .forward)
    {e : Entry}
    (hhead : s.queue.head? = some e) (hf : s.journal.forward = some (.retire e false))
    (howed : s.owedImages = s.journal.reserved + (Tag.owesImage e.tag).toNat)
    (houtside : s.group.state ≠ .groupOpen → s.group.state ≠ .committing →
      s.journal.reserved = 0)
    (hcapacity : s.group.state.holdsGroup →
      s.journal.written + s.journal.reserved ≤ s.capacity)
    (hsaved : ¬ s.group.state.holdsGroup → s.group.state ≠ .rollingBack → s.journal.saved = []) :
    (State.requestDataWrite e s).reservationSound := by
  have hcarry : (State.request e.dataWrite s).carrySound := hc.request hfree ⟨e, hf⟩
  have hwrites : (State.request e.dataWrite s).dataWriting = true :=
    hcarry.dataWriting_iff.mpr ⟨_, State.carries_request_self _ _, rfl⟩
  obtain ⟨rest, hq⟩ := List.head?_eq_some_iff.mp hhead
  obtain ⟨p, heq⟩ := State.request_port e.dataWrite s
  rw [State.owedImages_eq rfl, State.owedEntries_of_cons hq, hfree.not_dataWriting hc] at howed
  rw [State.requestDataWrite_eq]
  rw [heq] at hwrites ⊢
  refine ⟨?_, houtside, hcapacity, hsaved, fun e' he' => ?_, fun e' he' => ?_, fun hwork => ?_⟩
  · have howed' := State.owedImages_eq (s := { s with port := p, mem := s.mem }) rfl
    rw [State.owedEntries_of_cons (s := { s with port := p, mem := s.mem }) hq, hwrites] at howed'
    refine howed'.trans ?_
    change _ + (s.accessIs AccessPhase.owesImage).toNat = s.journal.reserved
    simp only [Bool.false_eq_true, if_false, if_true] at howed ⊢
    omega
  · obtain rfl : e = e' := by simpa [hf] using he'
    exact hhead
  · simp [hf] at he'
  · exact absurd hwork (State.noGroupWork_of_retire hf _)

/-- The data write of the entry under retirement: the work stays sound. -/
theorem State.workSound.requestDataWrite (h : s.workSound) {e : Entry} (hfree : s.free .forward)
    (hf : s.journal.forward = some (.retire e false)) :
    (State.requestDataWrite e s).workSound := by
  refine (State.workSound_iff _).mpr ⟨h.carry.request hfree ⟨e, hf⟩, ?_⟩
  obtain ⟨p, heq⟩ := State.request_port e.dataWrite s
  rw [State.requestDataWrite_eq, heq]
  exact h.thread

/-- The head entry comes under retirement (R56). -/
theorem State.keepsSound.takeHead (h : s.keepsSound s') (hforward : s'.journal.forward = none) :
    s.keepsSound (State.takeHead s') := by
  unfold State.takeHead
  split
  · exact h
  · rename_i e rest hq
    have hfree := fun hw => (h.carry hw).free_forward hforward
    have hno : State.noGroupWork { s' with journal.forward := some (.retire e false) } :=
      State.noGroupWork_of_retire rfl
    have hretires : State.retiresHead { s' with journal.forward := some (.retire e false) } := by
      intro e' r' he'
      obtain ⟨rfl, rfl⟩ : e = e' ∧ false = r' := by simpa using he'
      exact ⟨rfl, by simp [hq]⟩
    have hretire : s.keepsSound { s' with journal.forward := some (.retire e false) } :=
      h.setThread s'.journal.handed _ s'.journal.backward
        (fun hw => ⟨State.movesOn_forward _ (hfree hw) hno, (h.thread hw).setForward hno⟩)
        fun _ _ => ⟨hretires, fun hc => absurd hc (hno _)⟩
    unfold State.beginRetire
    dsimp only
    split
    · rename_i howes
      exact hretire.request _ (by simp) fun hw => ⟨hfree hw, e, false, rfl, howes⟩
    · rename_i howes
      refine ⟨by simpa [State.savedSound, State.requestDataWrite] using hretire.1,
        fun hw => (hretire.work hw).requestDataWrite (hfree hw) rfl, fun hw hr => ?_⟩
      · obtain ⟨howed, houtside, hcapacity, hsaved, -⟩ := hretire.2.2 hw hr
        refine State.reservationSound_of_dataWrite (hretire.carry hw) (hfree hw) (by simp [hq]) rfl
          ?_ houtside hcapacity hsaved
        rw [howed, Bool.eq_false_iff.mpr howes, Bool.toNat_false, Nat.add_zero]

end
end Sys2Proof.Machine

/-! # Proofs: group, recovery and CONFIGURING keep the work and the reservations -/

namespace Sys2Proof.Machine

set_option Elab.async false

section
variable {s s' t : State}

/-! ## The group controller -/

theorem State.keepsSound.takeRise (h : s.keepsSound s') : s.keepsSound (State.takeRise s') := by
  unfold State.takeRise
  cases hg : s'.group.state
  case idle =>
    refine h.enterOpening (fun _ => .inl hg) (fun hw => ?_) fun hw hr => ?_
    · exact (h.thread hw).unengaged (by simp [hg, GroupState.rests])
    · exact (h.2.2 hw hr).reserved_zero (by simp [hg]) (by simp [hg])
  all_goals exact h

/-- With nothing under way and nothing owed, to a group state at rest (R13, R16). -/
theorem State.keepsSound.settlesAt (h : s.keepsSound s') {g : GroupState} (hrests : g.rests = true)
    (hgroup : ¬ g.holdsGroup)
    (hat : s.workSound → s'.unengaged ∧ s'.free .anchor ∧ s'.group.state ≠ .configuring)
    (hempty : s.workSound → s.reservationSound →
      s'.journal.reserved = 0 ∧ s'.journal.saved = []) :
    s.keepsSound { s' with group.state := g } := by
  have hconf : g ≠ .configuring := by
    rintro rfl
    cases hrests
  refine h.settles (fun hw => ?_) ⟨rfl, rfl⟩ (.inl rfl) (fun _ => hgroup) fun hw hr => ?_
  · obtain ⟨hun, hfree, hold⟩ := hat hw
    exact ⟨{ anchor := .inl hfree }, State.threadSound_of_unengaged hun
      (State.jobFits_of_none hconf ((h.thread hw).job_none hold))⟩
  · obtain ⟨hzero, hnil⟩ := hempty hw hr
    exact ⟨hzero, hzero, fun _ => hnil, (h.2.2 hw hr).retiresHead (hat hw).1.not_rollbackDue⟩

theorem State.keepsSound.takeFall (h : s.keepsSound s') : s.keepsSound (State.takeFall s') := by
  unfold State.takeFall
  cases hg : s'.group.state
  case groupOpen =>
    exact h.enterCommitting (fun _ => .inr hg) fun hw =>
      (h.thread hw).unengaged (by simp [hg, GroupState.rests])
  case aborted =>
    have hidle : s.keepsSound { s' with group.state := .idle } := by
      refine h.settlesAt rfl nofun (fun hw => ⟨?_, ?_, by simp [hg]⟩) fun hw hr => ⟨?_, ?_⟩
      · exact (h.thread hw).unengaged (by simp [hg, GroupState.rests])
      · exact (h.work hw).free_anchor (by simp [hg]) (by simp [hg])
      · exact (h.2.2 hw hr).reserved_zero (by simp [hg]) (by simp [hg])
      · exact (h.2.2 hw hr).saved_nil (by simp [hg, GroupState.holdsGroup]) (by simp [hg])
    exact .enterIdle hidle
  all_goals exact h

theorem State.unengaged_of_work (h : s.workSound) {w : GroupWork} (hw : s.doesWork w) :
    State.unengaged { s with journal.forward := none } := by
  obtain ⟨-, hhanded, hback⟩ := h.thread.of_work hw
  exact ⟨State.noGroupWork_of_none rfl, hhanded, hback⟩

/-- An unengaged bridge outside RECOVERING and CONFIGURING is ready for a rollback. -/
theorem State.workSound.backwardReady_of_unengaged (h : s.workSound) (hun : s.unengaged)
    (hr : s.group.state ≠ .recovering) (hc : s.group.state ≠ .configuring) : s.backwardReady where
  backward := h.carry.free_backward (.inl hun.2.2)
  anchor := h.free_anchor hr hc
  work := hun.1
  handed := hun.2.1

/-- The end of OPENING (R11). -/
theorem State.keepsSound.leaveOpening (h : s.keepsSound s')
    (hg : s.workSound → s'.group.state = .opening)
    (hun : s.workSound → s'.unengaged) : s.keepsSound (State.leaveOpening s') := by
  have hzero := fun hw hr => (h.2.2 hw hr).reserved_zero (by simp [hg hw]) (by simp [hg hw])
  refine .ite ?_ (.ite (.enterCommitting (by exact h) (fun hw => .inl (hg hw)) hun)
    (.enterOpen (by exact h) hg hun))
  have hback : s.keepsSound { s' with
      group.state := .rollingBack, group.abortPending := false, group.closePending := false,
      group.openPending := false } := by
    refine h.settles (fun hw => ?_) ⟨rfl, rfl⟩ (.inl rfl) (by simp [GroupState.holdsGroup])
      fun hw hr => ⟨hzero hw hr, hzero hw hr, fun hb => absurd rfl hb,
        (h.2.2 hw hr).retiresHead (hun hw).not_rollbackDue⟩
    have hg := hg hw
    refine ⟨{ anchor := .inr ⟨fun hl => by simp [hl.1] at hg, rfl⟩ }, ?_⟩
    exact State.threadSound_of_unengaged (hun hw)
      (State.jobFits_of_none (by simp) ((h.thread hw).job_none (by simp [hg])))
  refine hback.markRelease.startRollback _ .abortCmd 0 (fun hw => ⟨?_, rfl⟩) fun hw hr => ?_
  · exact (hback.markRelease.work hw).backwardReady_of_unengaged (hun hw) nofun nofun
  · exact (hback.markRelease.2.2 hw hr).retiresHead (hun hw).not_rollbackDue

/-! ## Recovery -/

/-- Recovery is at its header choice or its walk, with no read under way (R102, R104). -/
structure State.recovers (s : State) : Prop where
  ready : s.backwardReady
  state : s.group.state = .recovering
  backward : s.journal.backward ≠ .idle

theorem State.keepsSound.retiresHead_recovering (h : s.keepsSound s') (hw : s.workSound)
    (hr : s.reservationSound) (hg : s'.group.state = .recovering) : s'.retiresHead :=
  (h.2.2 hw hr).retiresHead ((h.thread hw).not_rollbackDue (by simp [hg]))

/-- Recovery leaves for IDLE (R111). -/
theorem State.keepsSound.finishRecovery (h : s.keepsSound s')
    (hready : s.workSound → s'.backwardReady ∧ s'.group.state = .recovering) :
    s.keepsSound (State.finishRecovery s') := by
  refine .enterIdle (h.settles (fun hw => ?_) ⟨rfl, rfl⟩ (.inl rfl)
    (by simp [GroupState.holdsGroup]) fun hw hr => ?_)
  · obtain ⟨hready, hg⟩ := hready hw
    refine ⟨{ backward := .inl hready.backward, anchor := .inl hready.anchor }, ?_⟩
    exact State.threadSound_of_unengaged ⟨hready.work, hready.handed, rfl⟩
      (State.jobFits_of_none (by simp) ((h.thread hw).job_none (by simp [hg])))
  · obtain ⟨-, hg⟩ := hready hw
    have hr' := h.2.2 hw hr
    have hzero := hr'.reserved_zero (by simp [hg]) (by simp [hg])
    have hnil := hr'.saved_nil (by simp [hg, GroupState.holdsGroup]) (by simp [hg])
    exact ⟨hzero, hzero, fun _ => hnil, h.retiresHead_recovering hw hr hg⟩

theorem State.keepsSound.requestWalk (h : s.keepsSound s') (position : Nat) (blocks : List Nat)
    (hrec : s.workSound → s'.recovers) : s.keepsSound (State.requestWalk position blocks s') := by
  refine .request (h.setBackward (.walk position blocks)
    (fun hw => ⟨(hrec hw).ready, (hrec hw).state⟩)
    fun hw hr => h.retiresHead_recovering hw hr (hrec hw).state) _ (by simp) fun hw => ?_
  exact ⟨(hrec hw).ready.backward, position, blocks, rfl⟩

theorem State.keepsSound.runClosed (h : s.keepsSound s') (walkEnd : Nat)
    (hrec : s.workSound → s'.recovers) : s.keepsSound (State.runClosed walkEnd s') := by
  refine .ite ?_ (h.finishRecovery fun hw => ⟨(hrec hw).ready, (hrec hw).state⟩)
  refine h.setThread (some (.recoveryRewrite walkEnd)) s'.journal.forward .idle (fun hw => ?_)
    fun hw hr => ⟨h.retiresHead_recovering hw hr (hrec hw).state,
      fun hc => absurd hc ((hrec hw).ready.work _)⟩
  obtain ⟨hready, hg, -⟩ := hrec hw
  have hjob := (h.thread hw).job_none (by simp [hg])
  exact ⟨{ backward := .inl hready.backward, anchor := .inl hready.anchor },
    State.threadSound_of_handed hready.work rfl rfl hg (h.thread hw).jobFits (by simp [hjob])⟩

theorem State.keepsSound.haltRecovery (h : s.keepsSound s') (cause : UnreadableCause) (offset : Nat)
    (hrec : s.workSound → s'.recovers) : s.keepsSound (State.haltJournal cause offset s') :=
  h.haltJournal cause offset fun hw => ⟨(hrec hw).ready.backward, (hrec hw).backward,
    (h.thread hw).not_rollbackDue (by simp [(hrec hw).state])⟩

theorem State.keepsSound.runOpen (h : s.keepsSound s') (blocks : List Nat)
    (hrec : s.workSound → s'.recovers) : s.keepsSound (State.runOpen blocks s') := by
  unfold State.runOpen
  split
  · exact h.haltRecovery _ _ hrec
  · exact h.startRollback _ .recovery _ (fun hw => ⟨(hrec hw).ready, (hrec hw).state⟩)
      fun hw hr => h.retiresHead_recovering hw hr (hrec hw).state

theorem State.keepsSound.walkStops (h : s.keepsSound s') (position : Nat) (blocks : List Nat)
    (hrec : s.workSound → s'.recovers) : s.keepsSound (State.walkStops position blocks s') :=
  .ite (h.finishRecovery fun hw => ⟨(hrec hw).ready, (hrec hw).state⟩) (h.runOpen _ hrec)

theorem State.keepsSound.walkOn (h : s.keepsSound s') (position : Nat) (blocks : List Nat)
    (hrec : s.workSound → s'.recovers) : s.keepsSound (State.walkOn position blocks s') :=
  .ite (h.runOpen _ hrec) (h.requestWalk _ _ hrec)

/-- Words of the load come into the live copy: in RECOVERING no group is held (R86, R88). -/
theorem State.keepsSound.setLive (h : s.keepsSound s') (live : List Word)
    (hg : s.workSound → ¬ s'.group.state.holdsGroup) :
    s.keepsSound { s' with anchor.live := live } := by
  refine ⟨h.1, h.2.1, fun hw hr => ?_⟩
  obtain ⟨howed, houtside, -, hrest⟩ := h.2.2 hw hr
  exact ⟨howed, houtside, fun hh => absurd hh (hg hw), hrest⟩

/-- The anchor load has made its last read (R88). -/
theorem State.keepsSound.endAnchorLoad (h : s.keepsSound s')
    (hload : s.workSound → Purpose.fits .anchorLoad s' ∧ s'.free .anchor) :
    s.keepsSound (State.endAnchorLoad s') := by
  have hres : s.workSound → s.reservationSound → s'.journal.reserved = 0 ∧
      s'.journal.saved = [] ∧ s'.retiresHead := by
    intro hw hr
    obtain ⟨⟨hg, -⟩, -⟩ := hload hw
    have hr' := h.2.2 hw hr
    exact ⟨hr'.reserved_zero (by simp [hg]) (by simp [hg]),
      hr'.saved_nil (by simp [hg, GroupState.holdsGroup]) (by simp [hg]),
      h.retiresHead_recovering hw hr hg⟩
  have hgroup : s.workSound → ¬ s'.group.state.holdsGroup := by
    intro hw
    simp [(hload hw).1.1, GroupState.holdsGroup]
  unfold State.endAnchorLoad
  split
  · have hchoice : s.keepsSound { s' with
        anchor.staging := s'.anchor.live, anchor.isLive := true,
        events.mask := maskOf (anchorMask s'.anchor.live), journal.backward := .headerChoice } := by
      refine h.settles (fun hw => ?_) ⟨rfl, rfl⟩ (.inl rfl) hgroup fun hw hr => ?_
      · obtain ⟨⟨hg, hb, hh, hno⟩, hanchor⟩ := hload hw
        exact ⟨{ backward := .inl ((h.carry hw).free_backward (.inl hb)), anchor := .inl hanchor },
          State.threadSound_of_backward hno hh hg (h.thread hw).jobFits⟩
      · obtain ⟨hzero, hempty, hretires⟩ := hres hw hr
        exact ⟨hzero, hzero, fun _ => hempty, hretires⟩
    exact hchoice.startTimeBase.markRelease.request _ (by simp) fun hw =>
      ⟨(h.carry hw).free_backward (.inl (hload hw).1.2.1), rfl⟩
  · rename_i reason _
    have hfails : s.keepsSound { s' with
        anchor.staging := List.replicate Config.anchorWords 0, anchor.isLive := false,
        group.state := .unconfigured } := by
      refine h.settles (fun hw => ?_) ⟨rfl, rfl⟩ (.inl rfl) (by simp [GroupState.holdsGroup])
        fun hw hr => ?_
      · obtain ⟨⟨hg, hb, hh, hno⟩, hanchor⟩ := hload hw
        exact ⟨{ anchor := .inl hanchor }, State.threadSound_of_unengaged ⟨hno, hh, hb⟩
          (State.jobFits_of_none (by simp) ((h.thread hw).job_none (by simp [hg])))⟩
      · obtain ⟨hzero, hempty, hretires⟩ := hres hw hr
        exact ⟨hzero, hzero, fun _ => hempty, hretires⟩
    exact (hfails.raise (.anchorInvalid reason)).markRelease

/-- The reads of the anchor load follow one another (R88, R141). -/
theorem State.keepsSound.loadReads (h : s.keepsSound s') (reads : Nat) :
    s.keepsSound (State.loadReads reads s') := by
  induction reads generalizing s' with
  | zero => exact h
  | succ reads ih =>
    unfold State.loadReads
    dsimp only
    split
    · rename_i tr ht
      split
      · rename_i hp
        have hfits : s.workSound → Purpose.fits .anchorLoad s' :=
          fun hw => hp ▸ (h.carry hw).2 tr (.inl ht)
        have hfree : s.workSound →
            State.free { s' with port.inFlight := none, mem := s'.mem } .anchor := by
          intro hw
          have hfreed := ((h.carry hw).freed ht s'.mem).2
          rwa [hp] at hfreed
        have hread := (h.freed ht s'.mem (by simp [hp]) (by simp [hp, Purpose.retires])).setLive
          (fillCopy s'.anchor.live tr.addr (Transfer.wordsRead tr s'.mem))
          fun hw => by simp [(hfits hw).1, GroupState.holdsGroup]
        split
        · exact ih (.grant (hread.request (loadTransfer _) (by simp [loadTransfer])
            fun hw => ⟨hfree hw, hfits hw⟩))
        · exact hread.endAnchorLoad fun hw => ⟨hfits hw, hfree hw⟩
      · exact h
    · exact h

/-! ## The work of CONFIGURING -/

theorem State.enterConfiguring_eq (job : ConfigJob) (s : State) :
    State.enterConfiguring job s = State.markRelease (State.idleScanner
      { s with group.state := .configuring, anchor.job := some job }) := by
  unfold State.enterConfiguring State.idleScanner State.abandonScan
  split <;> rfl

/-- Entry to CONFIGURING from a group state at rest; a FORMAT hands over the format step at once
(R91, R97). -/
theorem State.keepsSound.enterConfiguring (h : s.keepsSound s') (job : ConfigJob)
    (handed : Option GroupWork) (hg : s'.group.state.rests = true)
    (hg' : ¬ s'.group.state.holdsGroup)
    (hhanded : s.workSound → handed = if job.store then none else some .format) :
    s.keepsSound (State.enterConfiguring job { s' with journal.handed := handed }) := by
  have hstate : s'.group.state ≠ .recovering ∧ s'.group.state ≠ .configuring ∧
      s'.group.state ≠ .rollingBack := by
    refine ⟨?_, ?_, ?_⟩ <;> rintro heq <;> simp [heq, GroupState.rests] at hg
  obtain ⟨hrec, hconf, hroll⟩ := hstate
  rw [State.enterConfiguring_eq]
  refine State.keepsSound.markRelease (.idleScanner (h.settles (fun hw => ?_) ⟨rfl, rfl⟩ (.inl rfl)
    (by simp [GroupState.holdsGroup]) fun hw hr => ?_))
  · obtain ⟨hno, -, hback⟩ := (h.thread hw).unengaged hg
    have hhanded := hhanded hw
    refine ⟨{ anchor := .inl ((h.work hw).free_anchor hrec hconf) }, ?_⟩
    cases hstore : job.store with
    | true =>
      rw [hstore, if_pos rfl] at hhanded
      exact State.threadSound_of_unengaged ⟨hno, hhanded, hback⟩ (by simp [State.jobFits])
    | false =>
      rw [hstore, if_neg (by simp)] at hhanded
      exact State.threadSound_of_handed hno hhanded hback rfl (by simp [State.jobFits])
        (by simp [hstore])
  · have hr' := h.2.2 hw hr
    have hzero := hr'.reserved_zero (fun ho => hg' (.inr (.inl ho))) fun hc => hg' (.inr (.inr hc))
    exact ⟨hzero, hzero, fun _ => hr'.saved_nil hg' hroll,
      hr'.retiresHead ((h.thread hw).not_rollbackDue hroll)⟩

/-- In CONFIGURING the backward activity is idle (R67, R103). -/
theorem State.threadSound.backward_idle (h : s.threadSound) (hg : s.group.state = .configuring) :
    s.journal.backward = .idle := by
  by_contra hb
  rcases h.state_of_backward hb with hg' | hg' <;> simp [hg] at hg'

/-- The store in progress is before its format step (R91, R93). -/
structure State.storing (s : State) (j : ConfigJob) : Prop where
  job : s.anchor.job = some j
  store : j.store = true
  stage : j.stage ≠ .formatting

theorem State.storing.unengaged (hj : ∃ j, s.storing j) (h : s.threadSound) :
    s.group.state = .configuring ∧ s.unengaged := by
  obtain ⟨j, hj, hstore, hstage⟩ := hj
  have hg : s.group.state = .configuring := h.jobFits.mpr (by simp [hj])
  obtain ⟨hhanded, hno⟩ := h.2.2.2.2 j hj hstore hstage
  exact ⟨hg, hno, hhanded, h.backward_idle hg⟩

/-- The store moves to another stage, while the anchor unit is free (R91). -/
theorem State.keepsSound.setStage (h : s.keepsSound s') {j : ConfigJob} (stage : JobStage)
    (hj : s.workSound → s'.storing j ∧ s'.free .anchor) :
    s.keepsSound (State.setStage j stage s') := by
  refine ⟨h.1, fun hw => (State.workSound_iff _).mpr ⟨?_, ?_⟩, h.2.2⟩
  · exact (h.carry hw).moves { anchor := .inl (hj hw).2 }
  · have hgun := State.storing.unengaged ⟨j, (hj hw).1⟩ (h.thread hw)
    exact State.threadSound_of_unengaged hgun.2 (by simp [State.jobFits, State.setStage, hgun.1])

theorem State.keepsSound.requestAnchorWrite (h : s.keepsSound s') {j : ConfigJob} (k : Nat)
    (hj : s.workSound → s'.storing j ∧ s'.free .anchor) :
    s.keepsSound (State.requestAnchorWrite j k s') :=
  .request (h.setStage (.writingAnchor k) hj) _ (by simp) fun hw =>
    ⟨(hj hw).2, _, k, rfl, (hj hw).1.store, rfl⟩

theorem State.keepsSound.beginAnchorWrite (h : s.keepsSound s') {j : ConfigJob}
    (hj : s.workSound → s'.storing j ∧ s'.free .anchor) :
    s.keepsSound (State.beginAnchorWrite j s') :=
  .requestAnchorWrite (by exact h) 1 fun hw =>
    ⟨⟨(hj hw).1.job, (hj hw).1.store, (hj hw).1.stage⟩, (hj hw).2⟩

theorem State.keepsSound.requestSlotClear (h : s.keepsSound s') {j : ConfigJob}
    (hj : s.workSound → s'.storing j ∧ s'.free .anchor) :
    s.keepsSound (State.requestSlotClear j s') :=
  .request (h.setStage .clearingSlots hj) _ (by simp) fun hw =>
    ⟨(hj hw).2, _, rfl, (hj hw).1.store, rfl⟩

/-- CONFIGURING ends in IDLE, with its work done (R94, R97). -/
theorem State.keepsSound.leaveConfiguring (h : s.keepsSound s')
    (hdone : s.workSound → s'.group.state = .configuring ∧ s'.unengaged ∧ s'.free .anchor)
    (hsame : t.port = s'.port ∧ t.queue = s'.queue ∧ t.host = s'.host ∧ t.journal = s'.journal ∧
      t.scanner = s'.scanner ∧ t.link = s'.link)
    (hidle : t.group.state = .idle) (hjob : t.anchor.job = none) : s.keepsSound t := by
  obtain ⟨hport, hqueue, hhost, hjournal, hscanner, hlink⟩ := hsame
  refine h.settles (fun hw => ?_) ⟨hqueue, by rw [hhost]⟩ (.inl (by rw [hjournal]))
    (by simp [hidle, GroupState.holdsGroup]) fun hw hr => ?_
  · obtain ⟨-, hun, hfree⟩ := hdone hw
    refine ⟨{ port := hport, backward := ?_, forward := ?_, host := ?_, anchor := .inl hfree,
              link := ?_, scanner := ?_ }, ?_⟩
    · exact .inr (congrArg Journal.backward hjournal)
    · exact .inr (congrArg Journal.forward hjournal)
    · exact .inr (by simp [State.keepsAt, Purpose.fits, hhost])
    · exact .inr (by simp [State.keepsAt, Purpose.fits, hlink])
    · exact .inr (by simp [State.keepsAt, Purpose.fits, hscanner, State.inFlightIs, hport])
    · refine State.threadSound_of_unengaged ?_ (State.jobFits_of_none (by simp [hidle]) hjob)
      simpa only [State.unengaged, State.noGroupWork, State.doesWork, hjournal] using hun
  · obtain ⟨hg, hun, -⟩ := hdone hw
    have hr' := h.2.2 hw hr
    have hzero := hr'.reserved_zero (by simp [hg]) (by simp [hg])
    refine ⟨hzero, by rw [hjournal]; exact hzero, fun _ => ?_, ?_⟩
    · rw [hjournal]
      exact hr'.saved_nil (by simp [hg, GroupState.holdsGroup]) (by simp [hg])
    · have hretires := hr'.retiresHead hun.not_rollbackDue
      simpa only [State.retiresHead, hjournal, hqueue] using hretires

theorem State.keepsSound.switchAnchor (h : s.keepsSound s') (j : ConfigJob)
    (hdone : s.workSound → s'.group.state = .configuring ∧ s'.unengaged ∧ s'.free .anchor) :
    s.keepsSound (State.switchAnchor j s') := by
  refine .enterIdle ?_
  unfold State.switchTimeBase
  split
  · exact h.leaveConfiguring hdone ⟨rfl, rfl, rfl, rfl, rfl, rfl⟩ rfl rfl
  · exact h.leaveConfiguring hdone ⟨rfl, rfl, rfl, rfl, rfl, rfl⟩ rfl rfl

/-- The format step ends (R46, R94, R97). -/
theorem State.keepsSound.endFormat (h : s.keepsSound s')
    (hdoes : s.workSound → s'.doesWork .format ∧ s'.free .forward) :
    s.keepsSound (State.endFormat s') := by
  have hended : s.keepsSound
      { s' with journal.forward := none, journal.header := some (formatHeader .b) } :=
    h.endWork fun hw => (hdoes hw).2
  have hdone : s.workSound → s'.group.state = .configuring ∧
      State.unengaged { s' with journal.forward := none } ∧ s'.free .anchor := by
    intro hw
    obtain ⟨hg, -, hload, hstore⟩ := (h.thread hw).of_engaged (.inr (hdoes hw).1)
    refine ⟨hg, State.unengaged_of_work (h.work hw) (hdoes hw).1, ?_⟩
    exact (h.carry hw).free_anchor hload fun j hj hs => by simp [hstore j hj hs]
  unfold State.endFormat
  dsimp only
  split
  · exact .ite (hended.switchAnchor _ hdone) (.enterIdle
      (hended.leaveConfiguring hdone ⟨rfl, rfl, rfl, rfl, rfl, rfl⟩ rfl rfl))
  · exact hended

end
end Sys2Proof.Machine

/-! # Proofs: line edges and completions keep the saved-block set, the work and the reservations -/

namespace Sys2Proof.Machine

set_option Elab.async false

section
variable {s s' t : State}

/-! ## The transfers of a retirement -/

/-- Marking a block SAVED adds no block to the set (R39, R41). -/
theorem State.savedSound.markSaved (h : s.savedSound) (block : Nat) :
    State.savedSound { s with journal.saved := markSaved block s.journal.saved } := by
  obtain ⟨hlength, hpairwise⟩ := h
  have hblock : ∀ b : SavedBlock,
      (if b.block = block then { b with state := SavedState.saved } else b).block = b.block := by
    intro b
    split <;> rfl
  refine ⟨by simpa [Machine.markSaved] using hlength, ?_⟩
  simp only [Machine.markSaved, List.pairwise_map, hblock]
  exact hpairwise

/-- The retirement of a removed entry ends with its transfer in flight: nothing is reserved any more
(R33, R41). -/
theorem State.keepsSound.dropRemoved (h : s.keepsSound s') {tr : Transfer}
    (ht : s'.port.inFlight = some tr) (hq : tr.purpose.requester = .forward) {e : Entry}
    (hf : s'.journal.forward = some (.retire e true)) (written : Nat) (saved : List SavedBlock)
    (hsaved : s'.savedSound → State.savedSound { s' with journal.saved := saved }) :
    s.keepsSound { State.completed tr s' with
      journal.forward := none, journal.written := written, journal.saved := saved } := by
  have hno : State.noGroupWork { State.completed tr s' with journal.forward := none } :=
    State.noGroupWork_of_none rfl
  have hwork : s.workSound →
      State.workSound { State.completed tr s' with journal.forward := none } := by
    intro hw
    obtain ⟨hcarry, hfree⟩ := (h.carry hw).completed ht
    rw [hq] at hfree
    exact (State.workSound_iff _).mpr
      ⟨hcarry.moves (State.movesOn_forward none hfree hno), (h.thread hw).setForward hno⟩
  refine ⟨fun hs => hsaved (h.1 hs), fun hw => hwork hw, fun hw hr => ?_⟩
  have hcarry := (hwork hw).carry
  obtain ⟨howed, houtside, -, -, -, hremoved, -⟩ := h.2.2 hw hr
  obtain ⟨-, g, cause, hback⟩ := hremoved e hf
  have hg : s'.group.state = .rollingBack := by
    have hfits := (h.thread hw).2.2.1
    rw [hback] at hfits
    exact hfits.1
  have hbefore : s'.dataWriting = false := by
    rw [← Bool.not_eq_true, (h.carry hw).dataWriting_iff]
    rintro ⟨x, hx, hp⟩
    have hfits := (h.carry hw).2 x hx
    rw [hp] at hfits
    obtain ⟨e', he'⟩ := hfits
    simp [hf] at he'
  have hafter := (hcarry.free_forward rfl).not_dataWriting hcarry
  have hsame : State.owedImages { State.completed tr s' with journal.forward := none } =
      s'.owedImages := State.owedImages_congr (hafter.trans hbefore.symm) rfl rfl
  refine ⟨hsame.trans howed, houtside, fun hh => ?_, fun _ hb => absurd hg hb, nofun, nofun,
    fun hc => absurd hc (hno _)⟩
  simp [State.completed, hg, GroupState.holdsGroup] at hh

/-- The IMAGE record of the head entry is complete: its image is written and no longer reserved, and
its data write follows (R33, R39). -/
theorem State.keepsSound.imageWritten (h : s.keepsSound s') {e : Entry}
    (hf : s'.journal.forward = some (.retire e false))
    (hat : s.workSound → s'.free .forward ∧ Tag.owesImage e.tag = true) :
    s.keepsSound (State.requestDataWrite e { s' with
      journal.written := s'.journal.written + 1
      journal.saved := markSaved e.block s'.journal.saved
      journal.reserved := s'.journal.reserved - 1 }) := by
  have hwork : s.workSound → State.workSound { s' with
      journal.written := s'.journal.written + 1
      journal.saved := markSaved e.block s'.journal.saved
      journal.reserved := s'.journal.reserved - 1 } := h.work
  refine ⟨fun hs => ?_, fun hw => (hwork hw).requestDataWrite (hat hw).1 hf, fun hw hr => ?_⟩
  · simpa [State.savedSound, State.requestDataWrite] using (h.1 hs).markSaved e.block
  · obtain ⟨hfree, howes⟩ := hat hw
    obtain ⟨howed, houtside, hcapacity, hsaved, hhead, -⟩ := h.2.2 hw hr
    have hpos : 0 < s'.journal.reserved := by
      obtain ⟨rest, hq⟩ := List.head?_eq_some_iff.mp (hhead e hf)
      rw [State.owedImages_eq rfl, State.owedEntries_of_cons hq,
        hfree.not_dataWriting (h.carry hw), howes] at howed
      simp only [Bool.false_eq_true, if_false, Bool.toNat_true] at howed
      omega
    refine State.reservationSound_of_dataWrite (hwork hw).carry hfree (hhead e hf) hf ?_
      (fun ho hc => ?_) (fun hh => ?_) fun hh hb => ?_
    · refine (State.owedImages_congr (s := s') rfl rfl rfl).trans (howed.trans ?_)
      rw [howes]
      exact (Nat.sub_add_cancel hpos).symm
    · exact absurd (houtside ho hc) (Nat.ne_of_gt hpos)
    · have hle := hcapacity hh
      change s'.journal.written + 1 + (s'.journal.reserved - 1) ≤ s'.capacity
      omega
    · exact congrArg (Machine.markSaved e.block) (hsaved hh hb)

/-- The data write is complete: the head entry leaves the queue (R38, R56). -/
theorem State.keepsSound.dataWritten (h : s.keepsSound s') {tr : Transfer}
    (ht : s'.port.inFlight = some tr) (hp : tr.purpose = .dataWrite) :
    s.keepsSound { State.completed tr s' with
      queue := s'.queue.drop 1, journal.forward := none } := by
  have hno : State.noGroupWork { State.completed tr s' with journal.forward := none } :=
    State.noGroupWork_of_none rfl
  have hwork : s.workSound →
      State.workSound { State.completed tr s' with journal.forward := none } := by
    intro hw
    obtain ⟨hcarry, hfree⟩ := (h.carry hw).completed ht
    rw [hp] at hfree
    exact (State.workSound_iff _).mpr
      ⟨hcarry.moves (State.movesOn_forward none hfree hno), (h.thread hw).setForward hno⟩
  refine ⟨h.1, fun hw => hwork hw, fun hw hr => ?_⟩
  have hcarry := (hwork hw).carry
  obtain ⟨howed, houtside, hcapacity, hsaved, -⟩ := h.2.2 hw hr
  have hbefore : s'.dataWriting = true := (h.carry hw).dataWriting_iff.mpr ⟨tr, .inl ht, hp⟩
  have hafter : State.dataWriting { State.completed tr s' with
      queue := s'.queue.drop 1, journal.forward := none } = false :=
    (hcarry.free_forward rfl).not_dataWriting hcarry
  refine ⟨?_, houtside, hcapacity, hsaved, nofun, nofun, fun hc => absurd hc (hno _)⟩
  rw [State.owedImages, hbefore] at howed
  rw [State.owedImages, hafter]
  exact howed

/-! ## The forms a meaning has -/

theorem State.keepsSound_of_next
    (he : (Host.Outcome.next s' : Host.Outcome State Fault Refusal) = .next t)
    (h : s.keepsSound s') : s.keepsSound t := by
  obtain rfl := Host.Outcome.next.inj he
  exact h

theorem State.outside_keepsSound {f : State → State} (he : State.outside f s = .next t)
    (hf : ∀ s', s.keepsSound s' → s.keepsSound (f s')) : s.keepsSound t := by
  obtain rfl := State.outside_eq_next.mp he
  exact .ite (.finish (hf _ (.settle (.refl s)))) (.refl s)

theorem State.within_keepsSound {f : State → State} (he : State.within f s = .next t)
    (hf : s.keepsSound (f s)) : s.keepsSound t := by
  obtain rfl := State.within_eq_next.mp he
  exact .ite (.finish hf) (.refl s)

/-- A link command: nothing outside an awaiting frame. -/
theorem State.link_keepsSound {f : State → State}
    (he : State.outside (State.inFrame f) s = .next t)
    (hf : ∀ s', s.keepsSound s' → s.keepsSound (f s')) : s.keepsSound t :=
  State.outside_keepsSound he fun _ h => .ite (hf _ h) h

/-- A completion: nothing for another purpose, and else its owner goes on. -/
theorem State.completion_keepsSound' {p : Purpose} {after : Transfer → List Word → State → State}
    (he : State.outside (State.complete p after) s = .next t)
    (hafter : ∀ tr ws s', s.keepsSound s' → s'.port.inFlight = some tr → tr.purpose = p →
      s.keepsSound (after tr ws (State.completed tr s'))) : s.keepsSound t := by
  refine State.outside_keepsSound he fun s' h => ?_
  rcases State.complete_cases p after s' with ⟨tr, ht, hp, heq⟩ | ⟨-, heq⟩
  · rw [heq]
    exact hafter tr _ s' h ht hp
  · rwa [heq]

/-- The completion of a transfer that is no retirement's: its requester is free, and is at what the
transfer was for. -/
theorem State.completion_keepsSound {p : Purpose} {after : Transfer → List Word → State → State}
    (hp : p.retires = false) (he : State.outside (State.complete p after) s = .next t)
    (hafter : ∀ tr ws s', s.keepsSound s' →
      (s.workSound → s'.free p.requester ∧ (p ≠ .scanRead → Purpose.fits p s')) →
      s.keepsSound (after tr ws s')) : s.keepsSound t := by
  refine State.completion_keepsSound' he fun tr ws s' h ht hpt => ?_
  subst hpt
  refine hafter tr ws _ (h.completed ht hp) fun hw =>
    ⟨((h.carry hw).completed ht).2, fun hscan => ?_⟩
  refine Purpose.fits_of_keepsAt (State.keepsAt_port _ _ fun hq => ?_) ((h.carry hw).2 tr (.inl ht))
  exact absurd (Purpose.eq_scanRead hq) hscan

/-! ## Reset -/

/-- Everything is at its reset values, as far as the work and the reservations go (R99, R145). -/
structure State.atReset (s : State) : Prop where
  group : s.group = GroupController.reset
  journal : s.journal = Journal.reset
  queue : s.queue = []
  access : s.host.access = none
  job : s.anchor.job = none
  port : s.port = MemoryPort.reset

theorem State.atReset.carries_nothing (h : s.atReset) (x : Transfer) : ¬ s.carries x := by
  rintro (hx | ⟨q, hx⟩)
  · simp [h.port, MemoryPort.reset] at hx
  · simp [h.port, MemoryPort.reset, Requests.get_empty] at hx

theorem State.atReset.workSound (h : s.atReset) : s.workSound := by
  have hnothing := h.carries_nothing
  obtain ⟨hgroup, hjournal, -, -, hjob, -⟩ := h
  refine (State.workSound_iff _).mpr
    ⟨⟨fun q x hx => absurd (.inr ⟨q, hx⟩) (hnothing x), fun x hx => absurd hx (hnothing x)⟩, ?_⟩
  refine State.threadSound_of_unengaged ⟨State.noGroupWork_of_none ?_, ?_, ?_⟩
    (State.jobFits_of_none ?_ hjob)
  · rw [hjournal, Journal.reset]
  · rw [hjournal, Journal.reset]
  · rw [hjournal, Journal.reset]
  · simp [hgroup, GroupController.reset]

theorem State.atReset.reservationSound (h : s.atReset) : s.reservationSound := by
  obtain ⟨hgroup, hjournal, hqueue, haccess, -, -⟩ := h
  have hforward : s.journal.forward = none := by rw [hjournal, Journal.reset]
  refine ⟨?_, fun _ _ => ?_, fun hg => ?_, fun _ _ => ?_, ?_, ?_, fun hc => ?_⟩
  · rw [State.owedImages_eq (State.accessIs_of_none haccess _), State.owedEntries, hqueue, hjournal]
    split <;> rfl
  · rw [hjournal, Journal.reset]
  · simp [hgroup, GroupController.reset, GroupState.holdsGroup] at hg
  · rw [hjournal, Journal.reset]
  · simp [hforward]
  · simp [hforward]
  · exact absurd hc (State.noGroupWork_of_none hforward _)

theorem State.atReset.keepsSound (h : t.atReset) (s : State) : s.keepsSound t :=
  ⟨fun _ => by simp [State.savedSound, h.journal, Journal.reset], fun _ => h.workSound,
    fun _ _ => h.reservationSound⟩

/-- The first read of the anchor load is asked for at reset (R102, R145). -/
theorem State.atReset.beginRecovery (h : t.atReset) (s : State) :
    s.keepsSound (State.beginRecovery t) := by
  refine (h.keepsSound s).request (loadTransfer 0) (by simp [loadTransfer]) fun _ => ?_
  have hload : Purpose.fits .anchorLoad t := by
    refine ⟨?_, ?_, ?_, State.noGroupWork_of_none ?_⟩
    · rw [h.group, GroupController.reset]
    · rw [h.journal, Journal.reset]
    · rw [h.journal, Journal.reset]
    · rw [h.journal, Journal.reset]
  exact ⟨fun x hx => absurd hx (h.carries_nothing x), hload⟩

theorem State.cleared_atReset (s : State) : (State.cleared s).atReset :=
  ⟨rfl, rfl, rfl, rfl, rfl, rfl⟩

theorem State.keepsSound.cleared (s t : State) : s.keepsSound (State.cleared t) :=
  (State.cleared_atReset t).keepsSound s

theorem State.keepsSound.startUp (s t : State) (straps : BitVec 2) :
    s.keepsSound (State.startUp straps t) :=
  State.atReset.beginRecovery ⟨rfl, rfl, rfl, rfl, rfl, rfl⟩ s

end
end Sys2Proof.Machine

/-! # Proofs: links and headers keep the saved-block set, the work and the reservations -/

namespace Sys2Proof.Machine

set_option Elab.async false

section
variable {s s' t : State}

/-! ## Links, scans and stores -/

theorem State.keepsSound.takeReadJournal (h : s.keepsSound s') (offset : Word) (count : Byte) :
    s.keepsSound (State.takeReadJournal offset count s') := by
  refine .ite (h.answer _ _ _) (.dite (fun _ => h.answer _ _ _) fun hread =>
    .ite (h.answerInvalid _ _) (.ite (h.answerInvalid _ _) ?_))
  have hfree : s.workSound → s'.free .link := fun hw =>
    (h.carry hw).free_link (by simpa using hread)
  have hread : s.keepsSound { s' with link.read := .outstanding true } :=
    ⟨h.1, fun hw => (State.workSound_iff _).mpr
      ⟨(h.carry hw).moves { link := .inl (hfree hw) }, h.thread hw⟩, h.2.2⟩
  exact .request (by exact hread) _ (by simp) fun hw => ⟨hfree hw, by simp [Purpose.fits]⟩

/-- A frame ends; a journal read goes on unheard (R168). -/
theorem State.keepsSound.endFrame (h : s.keepsSound s') (received : List Byte) :
    s.keepsSound (State.endFrame received s') := by
  have hread : s.keepsSound { s' with
      link.read := (match s'.link.read with
        | .outstanding _ => .outstanding false
        | .none => .none) } := by
    refine ⟨h.1, fun hw => (State.workSound_iff _).mpr ⟨?_, h.thread hw⟩, h.2.2⟩
    refine (h.carry hw).moves { link := .inr fun hl => ?_ }
    intro hnone
    cases hr : s'.link.read with
    | none => exact hl hr
    | outstanding => simp [hr] at hnone
  unfold State.endFrame
  exact .ite (by exact hread) (by exact hread)

theorem State.keepsSound.takeScanRegion (h : s.keepsSound s') (index : Byte) :
    s.keepsSound (State.takeScanRegion index s') := by
  refine .dite (fun _ => h.answer _ _ _) fun hbusy =>
    .ite (h.answerInvalid _ _) (.ite (h.answerInvalid _ _) (.answer ?_ _ _ _))
  exact h.startScan (by simp) _ (by simpa using (by simpa using hbusy : _ ∧ _).2)

theorem State.keepsSound.takeExpiry (h : s.keepsSound s') :
    s.keepsSound (State.takeExpiry s') := by
  unfold State.takeExpiry
  split
  · exact h
  · refine .dite (fun _ => h) fun hfree => h.startScan (by simp) _ ?_
    simpa using (by simpa using hfree : _ ∧ _).2

theorem State.keepsSound.endPeriodicScan (h : s.keepsSound s')
    (hfree : s.workSound → s'.free .scanner) : s.keepsSound (State.endPeriodicScan s') := by
  have hended := h.setScanner
    { s'.scanner with scan := .none, last := some s'.scanner.region, count := 0 }
    fun hw => .inl (hfree hw)
  exact .ite hended hended

theorem State.keepsSound.endRequestedScan (h : s.keepsSound s')
    (hfree : s.workSound → s'.free .scanner) : s.keepsSound (State.endRequestedScan s') :=
  (h.setScanner { s'.scanner with scan := .none } fun hw => .inl (hfree hw)).raise _

theorem State.keepsSound.foldScanRead (h : s.keepsSound s') (ws : List Word)
    (hfree : s.workSound → s'.free .scanner) : s.keepsSound (State.foldScanRead ws s') := by
  have hfolded := h.setScanner { s'.scanner with
    value := ws.foldl foldScan s'.scanner.value
    next := s'.scanner.next + 8
    remaining := s'.scanner.remaining - 8 } fun _ => .inr id
  unfold State.foldScanRead
  cases s'.scanner.scan with
  | none => exact h
  | periodic =>
    exact .ite (hfolded.endPeriodicScan hfree) (hfolded.requestScanRead fun hw _ => hfree hw)
  | onRequest =>
    exact .ite (hfolded.endRequestedScan hfree) (hfolded.requestScanRead fun hw _ => hfree hw)

/-- STORE_ANCHOR and FORMAT are taken in states at rest (R89, R97). -/
theorem State.keepsSound.takeStoreAnchor (h : s.keepsSound s') :
    s.keepsSound (State.takeStoreAnchor s') := by
  unfold State.takeStoreAnchor
  refine .dite (fun hready => ?_) fun _ => h.answer _ _ _
  split
  · exact h.answerInvalid _ _
  · simp only [Bool.and_eq_true, Bool.or_eq_true, beq_iff_eq] at hready
    obtain ⟨hg, -⟩ := hready
    have hrests : s'.group.state.rests = true := by
      rcases hg with (hg | hg) | hg <;> rw [hg] <;> rfl
    refine .answer (h.enterConfiguring _ s'.journal.handed hrests ?_ fun hw => ?_) _ _ _
    · rcases hg with (hg | hg) | hg <;> simp [hg, GroupState.holdsGroup]
    · exact ((h.thread hw).unengaged hrests).2.1

theorem State.keepsSound.takeFormat (h : s.keepsSound s') : s.keepsSound (State.takeFormat s') := by
  refine .dite (fun hready => ?_) fun _ => h.answer _ _ _
  simp only [Bool.and_eq_true, Bool.or_eq_true, beq_iff_eq] at hready
  obtain ⟨hg, -⟩ := hready
  refine .answer (h.enterConfiguring _ _ ?_ ?_ fun _ => rfl) _ _ _
  · rcases hg with hg | hg <;> rw [hg] <;> rfl
  · rcases hg with hg | hg <;> simp [hg, GroupState.holdsGroup]

/-- ABORT_GROUP: an abort is taken in OPEN, or remembered in OPENING (R14). -/
theorem State.keepsSound.takeAbortGroup (h : s.keepsSound s') :
    s.keepsSound (State.takeAbortGroup s') := by
  unfold State.takeAbortGroup
  cases hg : s'.group.state
  case groupOpen => exact (h.takeAbort hg (by simp)).answer _ _ _
  case opening => exact .ite (h.answer _ _ _) (.answer (by exact h) _ _ _)
  all_goals exact h.answer _ _ _

/-! ## The ends of group work -/

/-- The set is emptied at the end of a group (R32). -/
theorem State.keepsSound.clearSaved (h : s.keepsSound s') :
    s.keepsSound { s' with journal.saved := [] } := by
  refine ⟨fun _ => by simp [State.savedSound], h.2.1, fun hw hr => ?_⟩
  obtain ⟨howed, houtside, hcapacity, -, hrest⟩ := h.2.2 hw hr
  exact ⟨howed, houtside, hcapacity, fun _ _ => rfl, hrest⟩

/-- While the commit work is done nothing is owed any more (R12). -/
theorem State.reservationSound.commit_zero (hr : s.reservationSound) (hw : s.doesWork .commit) :
    s.journal.reserved = 0 := by
  obtain ⟨howed, -, -, -, -, -, hcommit⟩ := hr
  obtain ⟨hqueue, haccess⟩ := hcommit hw
  have hplain : ∀ t : Tag, Tag.isGroup t = false → Tag.owesImage t = false :=
    fun t ht => Bool.eq_false_iff.mpr fun ho => by simp [Tag.isGroup_of_owesImage ho] at ht
  have howes : s.accessIs AccessPhase.owesImage = false := by
    cases ha : s.host.access with
    | none => exact State.accessIs_of_none ha _
    | some a =>
      rw [State.accessIs_of_some ha] at haccess ⊢
      cases hp : a.phase <;> simp only [hp, AccessPhase.groupWritePending, AccessPhase.owesImage]
        at haccess ⊢
      case waiting | forming => exact hplain _ haccess
  rw [State.owedImages_eq howes, State.owedEntries] at howed
  rw [← howed, Bool.toNat_false, Nat.add_zero, List.countP_eq_zero]
  intro e he
  have hmem : e ∈ s.queue := by
    split at he
    · exact List.mem_of_mem_drop he
    · exact he
  simp [hplain _ (hqueue e hmem)]

/-- The work of a group has ended: the forward activity is free, and the set is emptied (R32). -/
theorem State.keepsSound.endGroup (h : s.keepsSound s') (header slotWriting : Option Header)
    (events : EventUnit) (hfree : s.workSound → s'.free .forward) :
    s.keepsSound { s' with
      journal.header := header, journal.slotWriting := slotWriting, journal.forward := none,
      journal.saved := [], events := events } :=
  (h.endWork hfree).clearSaved

/-- The controller leaves COMMITTING with the commit work done (R13). -/
theorem State.keepsSound.leaveCommitting (h : s.keepsSound s')
    (hun : s.workSound → s'.group.state = .committing ∧ s'.unengaged)
    (hempty : s.workSound → s.reservationSound →
      s'.journal.reserved = 0 ∧ s'.journal.saved = []) :
    s.keepsSound (State.leaveCommitting s') := by
  refine .ite (.enterOpening (by exact h) (fun hw => .inr (hun hw).1) (fun hw => (hun hw).2)
    fun hw hr => (hempty hw hr).1) ?_
  have hidle : s.keepsSound { s' with group.state := .idle } := by
    refine h.settlesAt rfl nofun (fun hw => ⟨(hun hw).2, ?_, by simp [(hun hw).1]⟩) hempty
    exact (h.work hw).free_anchor (by simp [(hun hw).1]) (by simp [(hun hw).1])
  exact .enterIdle hidle

/-- The controller leaves ROLLING BACK with the closing header written (R16). -/
theorem State.keepsSound.leaveRollback (h : s.keepsSound s')
    (hun : s.workSound → s'.group.state = .rollingBack ∧ s'.unengaged)
    (hempty : s.workSound → s.reservationSound →
      s'.journal.reserved = 0 ∧ s'.journal.saved = []) :
    s.keepsSound (State.leaveRollback s') := by
  have hrests : ∀ {g : GroupState}, g.rests = true → ¬ g.holdsGroup →
      s.keepsSound { s' with group.state := g } := by
    intro g hg hg'
    refine h.settlesAt hg hg' (fun hw => ⟨(hun hw).2, ?_, by simp [(hun hw).1]⟩) hempty
    exact (h.work hw).free_anchor (by simp [(hun hw).1]) (by simp [(hun hw).1])
  have hidle := hrests (g := .idle) rfl nofun
  exact .ite (hrests (g := .aborted) rfl nofun).markRelease (.enterIdle hidle)

/-- Recovery's header write is complete (R108, R110, R111). -/
theorem State.keepsSound.endRecovery (h : s.keepsSound s') (header slotWriting : Option Header)
    (events : EventUnit)
    (hat : s.workSound → s'.free .forward ∧ ∃ w : GroupWork, w.stateOf = .recovering ∧
      s'.doesWork w) :
    s.keepsSound (State.finishRecovery { s' with
      journal.header := header, journal.slotWriting := slotWriting, journal.forward := none,
      events := events }) := by
  have hended := h.endWork fun hw => (hat hw).1
  refine State.keepsSound.finishRecovery (by exact hended) fun hw => ?_
  obtain ⟨-, w, hstate, hwork⟩ := hat hw
  obtain ⟨hg, hhanded, hback⟩ := (h.thread hw).of_work hwork
  rw [hstate] at hg
  refine ⟨⟨(h.carry hw).free_backward (.inl hback), ?_, State.noGroupWork_of_none rfl, hhanded⟩, hg⟩
  exact (h.carry hw).free_anchor (fun hl => hl.2.2.2 w hwork)
    (by simp [(h.thread hw).job_none (by simp [hg])])

end

/-! ## The commands -/

/-- The commands of the supply and of the lines. -/
theorem exec_keepsSound_of_lineEvent {c : Instr} {s t : State} (hline : isLineEvent c = true)
    (he : exec c s = .next t) : s.keepsSound t := by
  cases c <;> simp only [isLineEvent, Bool.false_eq_true] at hline
  case powerOn straps =>
    exact State.keepsSound_of_next he (.ite (.refl s) (.ite (.cleared s _) (.startUp s _ straps)))
  case powerLoss => exact State.keepsSound_of_next he (.ite (.cleared s _) (.refl s))
  case rstAssertion =>
    exact State.keepsSound_of_next he (.ite (.refl s) (.ite (.cleared s _) (.refl s)))
  case rstRelease straps =>
    exact State.keepsSound_of_next he (.ite (.ite (.startUp s _ straps) (.refl s)) (.refl s))
  case grpRise =>
    simp only [exec, execGrpRise] at he
    split at he
    · exact State.keepsSound_of_next he (.refl s)
    · split at he
      · exact State.outside_keepsSound he fun _ h => .takeRise (by exact h)
      · exact State.keepsSound_of_next he (.refl s)
  case grpFall =>
    simp only [exec, execGrpFall] at he
    split at he
    · split at he
      · exact State.outside_keepsSound he fun _ h => .takeFall (by exact h)
      · exact State.keepsSound_of_next he (.refl s)
    · exact State.keepsSound_of_next he (.refl s)
  case pfailAssertion =>
    have hasserted : s.keepsSound { State.settle s with lines.pfail := true } :=
      .settle (.refl s)
    have hdropped := hasserted.powerFailAccess.powerFailScan.powerFailLink
    exact State.keepsSound_of_next he (.ite (.refl s) (.ite (by exact hdropped) (.refl s)))
  case pfailDeassertion =>
    have hsettled : s.keepsSound (if s.running then State.settle s else s) :=
      .ite (.settle (.refl s)) (.refl s)
    exact State.keepsSound_of_next he (.ite (by exact hsettled) (.refl s))
  case lselAssertion =>
    simp only [exec, execLselAssertion] at he
    split at he
    · exact State.keepsSound_of_next he (.refl s)
    · split at he
      · exact State.outside_keepsSound he fun _ h => h
      · exact State.keepsSound_of_next he (.refl s)
  case lselDeassertion =>
    simp only [exec, execLselDeassertion] at he
    split at he
    · split at he
      · exact State.outside_keepsSound he fun _ h => h.endFrame _
      · exact State.keepsSound_of_next he (.refl s)
    · exact State.keepsSound_of_next he (.refl s)

/-- The commands of the link. -/
theorem exec_keepsSound_of_linkPart {c : Instr} {s t : State} (hlink : Instr.isLinkPart c = true)
    (he : exec c s = .next t) : s.keepsSound t := by
  cases c
  case status => exact State.link_keepsSound he fun _ h => h.respond _ _
  case nextEvent =>
    refine State.link_keepsSound he fun s' h => ?_
    unfold State.takeNextEvent
    split
    · exact h.answer _ _ _
    · exact .answer (by exact h) _ _ _
  case abortGroup => exact State.link_keepsSound he fun _ h => h.takeAbortGroup
  case setMask =>
    exact State.link_keepsSound he fun _ h => .ite (h.answer _ _ _) (.answer (by exact h) _ _ _)
  case readLive | readStage =>
    exact State.link_keepsSound he fun _ h =>
      .ite (h.answer _ _ _) (.ite (h.answer _ _ _) (h.answerInvalid _ _))
  case stage =>
    simp only [exec, execStage] at he
    exact State.link_keepsSound he fun _ h => .ite
      (.ite (h.answer _ _ _) (.ite (.answer (by exact h) _ _ _) (h.answerInvalid _ _))) h
  case copyLiveToStage =>
    exact State.link_keepsSound he fun _ h => .ite (h.answer _ _ _) (.answer (by exact h) _ _ _)
  case storeAnchor => exact State.link_keepsSound he fun _ h => h.takeStoreAnchor
  case format => exact State.link_keepsSound he fun _ h => h.takeFormat
  case readJournal => exact State.link_keepsSound he fun _ h => h.takeReadJournal _ _
  case scanRegion => exact State.link_keepsSound he fun _ h => h.takeScanRegion _
  case unknownCommand =>
    simp only [exec, execUnknownCommand] at he
    exact State.link_keepsSound he fun _ h => .ite h (h.respond _ _)
  case badCheckFrame =>
    simp only [exec, execBadCheckFrame] at he
    exact State.link_keepsSound he fun _ h => .ite ((h.raise _).respond _ _) h
  all_goals exact absurd (show false = true from hlink) Bool.false_ne_true

/-- The completions of the backward activity and of the anchor load. -/
theorem exec_keepsSound_of_recovery {p : Purpose} {s t : State}
    (hp : p.requester = .backward ∨ p = .anchorLoad) (he : exec p.completion s = .next t) :
    s.keepsSound t := by
  cases p <;> simp only [Purpose.requester, reduceCtorEq, or_self] at hp <;>
    simp only [Purpose.completion] at he
  case anchorLoad => exact State.outside_keepsSound he fun _ h => h.loadReads _
  case slotsRead =>
    refine State.completion_keepsSound rfl he fun _ ws s' h hat => ?_
    have hrec : s.workSound → s'.recovers := by
      intro hw
      obtain ⟨hfree, hfits⟩ := hat hw
      have hback : s'.journal.backward = .headerChoice := hfits (by simp)
      have hne : s'.journal.backward ≠ .idle := by simp [hback]
      refine ⟨(h.work hw).backwardReady hfree hne, ?_, hne⟩
      have hg := (h.thread hw).2.2.1
      rwa [hback] at hg
    split
    · exact h.haltRecovery _ _ hrec
    · refine .ite ?_ ?_
      · exact State.keepsSound.finishRecovery (by exact h) fun hw =>
          have hrec := hrec hw
          ⟨⟨hrec.ready.backward, hrec.ready.anchor, hrec.ready.work, hrec.ready.handed⟩, hrec.state⟩
      · exact State.keepsSound.requestWalk (by exact h) _ _ fun hw =>
          have hrec := hrec hw
          ⟨⟨hrec.ready.backward, hrec.ready.anchor, hrec.ready.work, hrec.ready.handed⟩, hrec.state,
            hrec.backward⟩
  case walkRead =>
    refine State.completion_keepsSound rfl he fun _ ws s' h hat => ?_
    split
    · rename_i position blocks hback
      have hrec : s.workSound → s'.recovers := by
        intro hw
        have hne : s'.journal.backward ≠ .idle := by simp [hback]
        refine ⟨(h.work hw).backwardReady (hat hw).1 hne, ?_, hne⟩
        have hg := (h.thread hw).2.2.1
        rwa [hback] at hg
      split
      · exact h.walkStops _ _ hrec
      · exact h.walkOn _ _ hrec
      · exact h.walkOn _ _ hrec
      · exact h.runClosed _ hrec
      · exact h.runClosed _ hrec
    · exact h
  case imageRead =>
    refine State.completion_keepsSound rfl he fun _ ws s' h hat => ?_
    split
    · rename_i r hback
      refine .ite (h.request _ (by simp) fun hw => ⟨(hat hw).1, r, hback⟩)
        (h.haltJournal _ _ fun hw =>
          ⟨(hat hw).1, by simp [hback], by simp [State.rollbackDue, hback]⟩)
    · exact h
  case restoreWrite =>
    refine State.completion_keepsSound rfl he fun _ ws s' h hat => ?_
    split
    · rename_i r hback
      have hready : s.workSound → s'.backwardReady ∧ (Backward.restoring
          { r with restored := r.restored + 1, next := r.next - 8 }).fits s'.group.state := by
        intro hw
        refine ⟨(h.work hw).backwardReady (hat hw).1 (by simp [hback]), ?_⟩
        have hfits := (h.thread hw).2.2.1
        rwa [hback] at hfits
      have hretires : s.workSound → s.reservationSound → s'.retiresHead := fun hw hr =>
        (h.2.2 hw hr).retiresHead (by simp [State.rollbackDue, hback])
      refine .ite (h.requestUndone _ hready hretires) ?_
      exact .request (h.setBackward (.restoring _) hready hretires) _ (by simp)
        fun hw => ⟨(hat hw).1, _, rfl⟩
    · exact h
  case undoneWrite =>
    refine State.completion_keepsSound rfl he fun _ ws s' h hat => ?_
    split
    · rename_i r hback
      refine h.setThread _ s'.journal.forward .idle (fun hw => ?_) fun hw hr => ⟨?_, fun hc => ?_⟩
      · have hready := (h.work hw).backwardReady (hat hw).1 (by simp [hback])
        refine ⟨{ backward := .inl hready.backward, anchor := .inl hready.anchor }, ?_⟩
        have hfits := (h.thread hw).2.2.1
        simp only [hback, Backward.fits] at hfits
        have hjob := (h.thread hw).job_none (by rw [hfits]; split <;> simp)
        refine State.threadSound_of_handed hready.work rfl rfl ?_ (h.thread hw).jobFits
          (by simp [hjob])
        refine hfits.trans ?_
        split <;> rfl
      · exact (h.2.2 hw hr).retiresHead (by simp [State.rollbackDue, hback])
      · exact absurd hc (((h.work hw).backwardReady (hat hw).1 (by simp [hback])).work _)
    · exact h

end Sys2Proof.Machine

/-! # Proofs: every step keeps the saved-block set, the work and the reservations (O13, O59) -/

namespace Sys2Proof.Machine

set_option Elab.async false

/-- The completions of a retirement (R38, R39, R41). -/
theorem exec_keepsSound_of_retirement {p : Purpose} {s t : State} (hp : p.retires = true)
    (he : exec p.completion s = .next t) : s.keepsSound t := by
  cases p <;> simp only [Purpose.retires, Bool.false_eq_true] at hp <;>
    simp only [Purpose.completion] at he
  case blockRead =>
    refine State.completion_keepsSound' he fun tr ws s' h ht hp => ?_
    split
    · rename_i e hf
      change s'.journal.forward = _ at hf
      refine .request (h.freed ht _ (by simp [hp]) (by simp [hf])) _ (by simp) fun hw => ?_
      have hfree := ((h.carry hw).completed ht).2
      have hfits := (h.carry hw).2 tr (.inl ht)
      rw [hp] at hfree hfits
      exact ⟨hfree, hfits⟩
    · rename_i e hf
      exact h.dropRemoved ht (by simp [hp, Purpose.requester]) hf _ _ id
    · rename_i hkept hremoved
      exact h.freed ht _ (by simp [hp]) fun _ e hf => hremoved e hf
  case imageWrite =>
    refine State.completion_keepsSound' he fun tr ws s' h ht hp => ?_
    split
    · rename_i e removed hf
      change s'.journal.forward = _ at hf
      cases removed with
      | true =>
        exact h.dropRemoved ht (by simp [hp, Purpose.requester]) hf _ _ fun hs => hs.markSaved _
      | false =>
        refine (h.freed ht _ (by simp [hp]) (by simp [hf])).imageWritten hf fun hw => ?_
        have hfree := ((h.carry hw).completed ht).2
        have hfits := (h.carry hw).2 tr (.inl ht)
        rw [hp] at hfree hfits
        obtain ⟨e', r', he', howes⟩ := hfits
        obtain ⟨rfl, -⟩ : e = e' ∧ false = r' := by simpa [hf] using he'
        exact ⟨hfree, howes⟩
    · rename_i hnone
      exact h.freed ht _ (by simp [hp]) fun _ e hf => hnone e true hf
  case dataWrite =>
    exact State.completion_keepsSound' he fun tr ws s' h ht hp => h.dataWritten ht hp

/-- The completions of group work (R26, R30, R44, R46, R73, R108, R110). -/
theorem exec_keepsSound_of_groupWork {p : Purpose} {s t : State} (hp : p.requester = .forward)
    (hretires : p.retires = false) (he : exec p.completion s = .next t) : s.keepsSound t := by
  cases p <;> simp only [Purpose.requester, reduceCtorEq] at hp <;>
    simp only [Purpose.retires, Bool.true_eq_false] at hretires <;>
    simp only [Purpose.completion] at he
  case recoveryRewrite =>
    refine State.completion_keepsSound rfl he fun _ _ s' h hat =>
      h.endRecovery _ _ _ fun hw => ?_
    obtain ⟨n, hwork⟩ := (hat hw).2 (by simp)
    exact ⟨(hat hw).1, _, rfl, hwork⟩
  case recoveryClose =>
    refine State.completion_keepsSound rfl he fun _ _ s' h hat => ?_
    split
    · rename_i n k hf
      exact h.endRecovery _ _ _ fun hw => ⟨(hat hw).1, .closeRecovery n, rfl, k, hf⟩
    · exact h
  case wipe =>
    refine State.completion_keepsSound rfl he fun _ _ s' h hat => ?_
    split
    · exact h.wipeStep _ fun hw => ⟨(hat hw).2 (by simp), (hat hw).1⟩
    · exact h
  case wipeHeader =>
    refine State.completion_keepsSound rfl he fun _ _ s' h hat => ?_
    exact State.keepsSound.requestHeader (by exact h) _ _ _ (by simp) fun hw =>
      ⟨(hat hw).1, (hat hw).2 (by simp)⟩
  case openingHeader =>
    refine State.completion_keepsSound rfl he fun _ _ s' h hat => ?_
    exact State.keepsSound.request (by exact h) _ (by simp) fun hw =>
      ⟨(hat hw).1, (hat hw).2 (by simp)⟩
  case openRecord =>
    refine State.completion_keepsSound rfl he fun _ _ s' h hat => ?_
    have hwork : s.workSound → s'.doesWork .opening := fun hw => (hat hw).2 (by simp)
    exact (h.endWork fun hw => (hat hw).1).leaveOpening
      (fun hw => ((h.thread hw).of_work (hwork hw)).1)
      fun hw => State.unengaged_of_work (h.work hw) (hwork hw)
  case commitRecord =>
    refine State.completion_keepsSound rfl he fun _ _ s' h hat => ?_
    exact h.requestHeader _ _ _ (by simp) fun hw => ⟨(hat hw).1, (hat hw).2 (by simp)⟩
  case commitHeader =>
    refine State.completion_keepsSound rfl he fun _ _ s' h hat => ?_
    have hwork : s.workSound → s'.doesWork .commit := fun hw => (hat hw).2 (by simp)
    exact (h.endGroup _ _ _ fun hw => (hat hw).1).leaveCommitting
      (fun hw => ⟨((h.thread hw).of_work (hwork hw)).1,
        State.unengaged_of_work (h.work hw) (hwork hw)⟩)
      fun hw hr => ⟨(h.2.2 hw hr).commit_zero (hwork hw), rfl⟩
  case rollbackHeader =>
    refine State.completion_keepsSound rfl he fun _ _ s' h hat => ?_
    split
    · rename_i cause n k hf
      have hwork : s'.doesWork (.closeRollback cause n) := ⟨k, hf⟩
      have hg : s.workSound → s'.group.state = .rollingBack := fun hw =>
        ((h.thread hw).of_work hwork).1
      exact (h.endGroup _ _ _ fun hw => (hat hw).1).leaveRollback
        (fun hw => ⟨hg hw, State.unengaged_of_work (h.work hw) hwork⟩)
        fun hw hr => ⟨(h.2.2 hw hr).reserved_zero (by simp [hg hw]) (by simp [hg hw]), rfl⟩
    · exact h
  case format =>
    refine State.completion_keepsSound rfl he fun _ _ s' h hat => ?_
    split
    · exact .ite (h.requestFormat _ fun hw => ⟨(hat hw).2 (by simp), (hat hw).1⟩)
        (h.endFormat fun hw => ⟨(hat hw).2 (by simp), (hat hw).1⟩)
    · exact h

/-- The store has written its anchor and hands the format step over (R93). -/
theorem State.keepsSound.handFormat {s s' : State} (h : s.keepsSound s') {j : ConfigJob}
    (hj : s.workSound → s'.storing j ∧ s'.free .anchor) :
    s.keepsSound (State.setStage j .formatting { s' with journal.handed := some .format }) := by
  refine ⟨h.1, fun hw => (State.workSound_iff _).mpr ⟨?_, ?_⟩, h.2.2⟩
  · exact (h.carry hw).moves { anchor := .inl (hj hw).2 }
  · obtain ⟨hg, hno, -, hback⟩ := State.storing.unengaged ⟨j, (hj hw).1⟩ (h.thread hw)
    exact State.threadSound_of_handed hno rfl hback hg (by simp [State.jobFits, State.setStage, hg])
      (by simp [State.setStage])

/-- With the scanner free no read in flight is to be discarded (R156). -/
theorem State.keepsSound.clearDiscard {s s' : State} (h : s.keepsSound s')
    (hfree : s.workSound → s'.free .scanner) :
    s.keepsSound { s' with port.discard := false } := by
  refine ⟨h.1, fun hw => (State.workSound_iff _).mpr ⟨?_, h.thread hw⟩, fun hw hr =>
    (h.2.2 hw hr).port _ _ rfl fun _ _ => id⟩
  obtain ⟨hown, hfits⟩ := h.carry hw
  exact ⟨hown, fun x hx => Purpose.fits_of_keepsAt
    (State.keepsAt_port _ s'.mem fun hq => absurd hq (hfree hw x hx)) (hfits x hx)⟩

/-- The completions of the host port, the anchor unit's store, the scanner and the link. -/
theorem exec_keepsSound_of_port {p : Purpose} {s t : State}
    (hp : p.requester ≠ .backward ∧ p.requester ≠ .forward ∧ p ≠ .anchorLoad)
    (he : exec p.completion s = .next t) : s.keepsSound t := by
  cases p <;>
    simp only [Purpose.requester, ne_eq, reduceCtorEq, not_true_eq_false, not_false_eq_true,
      false_and, and_false] at hp <;>
    simp only [Purpose.completion] at he
  case hostRead =>
    refine State.completion_keepsSound rfl he fun _ ws s' h hat => ?_
    split
    · rename_i a ha
      refine .dite (fun hread => ?_) fun _ => h
      refine h.setHost _ (fun hw => .inl (hat hw).1) fun _ hr => hr.host _ ?_ fun _ hp => ?_
      · exact ((State.accessIs_of_some ha _).trans (by rw [hread]; rfl)).symm
      · cases hp
    · exact h
  case slotClear =>
    refine State.completion_keepsSound rfl he fun _ _ s' h hat => ?_
    split
    · rename_i j hj
      refine h.beginAnchorWrite fun hw => ⟨?_, (hat hw).1⟩
      obtain ⟨j', hj', hstore, hstage⟩ := (hat hw).2 (by simp)
      obtain rfl := Option.some.inj (hj.symm.trans hj')
      exact ⟨hj, hstore, by simp [hstage]⟩
    · exact h
  case anchorWrite =>
    refine State.completion_keepsSound rfl he fun _ _ s' h hat => ?_
    split
    · rename_i j hj
      have hstoring : s.workSound → ∀ k, j.stage = .writingAnchor k → s'.storing j := by
        intro hw k hstage
        obtain ⟨j', k', hj', hstore, -⟩ := (hat hw).2 (by simp)
        obtain rfl := Option.some.inj (hj.symm.trans hj')
        exact ⟨hj, hstore, by simp [hstage]⟩
      split
      · rename_i k hstage
        have hwrites : s.workSound → s'.storing j ∧ s'.free .anchor := fun hw =>
          ⟨hstoring hw k hstage, (hat hw).1⟩
        have hdone : s.workSound → s'.group.state = .configuring ∧ s'.unengaged ∧
            s'.free .anchor := by
          intro hw
          obtain ⟨hg, hun⟩ := State.storing.unengaged ⟨j, (hwrites hw).1⟩ (h.thread hw)
          exact ⟨hg, hun, (hat hw).1⟩
        refine .ite (h.requestAnchorWrite _ hwrites) (.ite ?_ (h.switchAnchor _ hdone))
        exact h.handFormat hwrites
      · exact h
    · exact h
  case scanRead =>
    refine State.completion_keepsSound rfl he fun _ ws s' h hat => ?_
    exact .ite ((h.clearDiscard fun hw => (hat hw).1).requestScanRead fun hw _ => (hat hw).1)
      (h.foldScanRead ws fun hw => (hat hw).1)
  case linkRead =>
    exact State.completion_keepsSound rfl he fun _ _ s' h hat =>
      h.endLinkRead _ _ fun hw => (hat hw).1

/-- Every completion. -/
theorem exec_keepsSound_of_completion {p : Purpose} {s t : State}
    (he : exec p.completion s = .next t) : s.keepsSound t := by
  by_cases hback : p.requester = .backward ∨ p = .anchorLoad
  · exact exec_keepsSound_of_recovery hback he
  · obtain ⟨hback, hload⟩ := not_or.mp hback
    by_cases hforward : p.requester = .forward
    · cases hretires : p.retires with
      | true => exact exec_keepsSound_of_retirement hretires he
      | false => exact exec_keepsSound_of_groupWork hforward hretires he
    · exact exec_keepsSound_of_port ⟨hback, hforward, hload⟩ he

/-! ## Every command -/

theorem exec_keepsSound {c : Instr} {s t : State} (he : exec c s = .next t) :
    s.keepsSound t := by
  cases c
  case hostAddressPhase =>
    simp only [exec, execHostAddressPhase] at he
    refine State.outside_keepsSound he fun s' h => .dite (fun hphase => ?_) fun _ => h
    have hnone : s'.host.access = none := by
      simpa using (Bool.and_eq_true_iff.mp hphase).1
    have hanswered : s.keepsSound { s' with host.answer := none } := h
    exact hanswered.classify (State.accessUnserved_of_none hnone) _
  case hostDataPhase => exact State.outside_keepsSound he fun _ h => h.takeDataPhase _
  case heldAccessRelease =>
    simp only [exec, execHeldAccessRelease] at he
    refine State.within_keepsSound he ?_
    split
    · rename_i a ha
      refine .dite (fun hheld => ?_) fun _ => .refl s
      exact (State.keepsSound.refl s).classify
        (State.accessUnserved_of_some ha (by rw [hheld]; rfl) (by simp [hheld])) a
    · exact .refl s
  case waitingWriteTakesPlace =>
    simp only [exec, execWaitingWriteTakesPlace] at he
    refine State.within_keepsSound he ?_
    split
    · rename_i a ha
      split
      · rename_i p hphase
        refine .ite ?_ (.refl s)
        refine (State.keepsSound.refl s).setHost _ (fun hw => .inl ?_) fun _ hr => hr.host _ ?_ ?_
        · refine hw.carry.free_host fun a' ha' => ?_
          obtain rfl := Option.some.inj (ha.symm.trans ha')
          simp [hphase]
        · exact ((State.accessIs_of_some ha _).trans (by rw [hphase]; rfl)).symm
        · exact fun _ hp => (State.accessIs_of_some ha _).trans (by rw [hphase]; exact hp)
      · exact .refl s
    · exact .refl s
  case queuedReadProceeds =>
    simp only [exec, execQueuedReadProceeds] at he
    refine State.within_keepsSound he ?_
    split
    · rename_i a ha
      refine .dite (fun hqueued => ?_) fun _ => .refl s
      exact (State.keepsSound.refl s).requestHostRead
        (State.accessUnserved_of_some ha (by rw [hqueued.1]; rfl) (by simp [hqueued.1])) a
    · exact .refl s
  case tick =>
    simp only [exec, execTick] at he
    exact State.outside_keepsSound he fun _ h => .ite (by exact h) h
  case ageTimeout =>
    exact State.within_keepsSound he (State.keepsSound.refl s).takeAgeTimeout
  case scanIntervalExpiry =>
    simp only [exec, execScanIntervalExpiry] at he
    exact State.within_keepsSound he (.ite (State.keepsSound.refl s).takeExpiry (.refl s))
  case duePeriodicScanStart =>
    exact State.within_keepsSound he (State.keepsSound.refl s).startDueScan
  case forwardWorkStart =>
    simp only [exec, execForwardWorkStart] at he
    refine State.within_keepsSound he ?_
    split
    · exact .refl s
    · rename_i hforward
      split
      · rename_i w hhanded
        exact .dite (fun hready => (State.keepsSound.refl s).beginGroupWork hforward hhanded hready)
          fun _ => (State.keepsSound.refl s).takeHead hforward
      · exact (State.keepsSound.refl s).takeHead hforward
  case storeWorkStart =>
    simp only [exec, execStoreWorkStart] at he
    refine State.within_keepsSound he ?_
    split
    · rename_i j hj
      refine .dite (fun hstart => ?_) fun _ => .refl s
      simp only [Bool.and_eq_true, beq_iff_eq] at hstart
      obtain ⟨⟨⟨hg, hstore⟩, hstage⟩, -⟩ := hstart
      have hready : s.workSound → s.storing j ∧ s.free .anchor := by
        refine fun hw => ⟨⟨hj, hstore, by simp [hstage]⟩, hw.carry.free_anchor ?_ ?_⟩
        · rintro ⟨hrec, -⟩
          simp [hg] at hrec
        · intro j' hj' _
          obtain rfl := Option.some.inj (hj.symm.trans hj')
          simp [hstage]
      exact .ite ((State.keepsSound.refl s).requestSlotClear hready)
        ((State.keepsSound.refl s).beginAnchorWrite hready)
    · exact .refl s
  case backwardActivityStart =>
    simp only [exec, execBackwardActivityStart] at he
    refine State.within_keepsSound he ?_
    split
    · rename_i g cause hback
      refine .dite (fun _ => .refl s) fun hflight => ?_
      have hne : s.journal.backward ≠ .idle := by simp [hback]
      refine (State.keepsSound.refl s).startRollback _ _ _ (fun hw => ⟨?_, ?_⟩) fun hw hr => ?_
      · refine hw.backwardReady (hw.carry.free_backward (.inr ?_)) hne
        simp [State.rollbackDue, hback]
      · have hfits := hw.thread.2.2.1
        rw [hback] at hfits
        rw [hfits.1, if_neg hfits.2]
      · obtain ⟨-, -, -, -, hhead, hremoved, -⟩ := hr
        intro e r he
        cases r with
        | false => exact ⟨rfl, hhead e he⟩
        | true => exact absurd (hremoved e he).1 hflight
    · exact .refl s
  case safeEntry =>
    simp only [exec, execSafeEntry] at he
    exact State.within_keepsSound he (.ite (by exact .refl s) (.refl s))
  case powerOn | powerLoss | rstAssertion | rstRelease | grpRise | grpFall | pfailAssertion |
      pfailDeassertion | lselAssertion | lselDeassertion =>
    exact exec_keepsSound_of_lineEvent rfl he
  case status | nextEvent | abortGroup | setMask | readLive | readStage | stage | copyLiveToStage |
      storeAnchor | format | readJournal | scanRegion | unknownCommand | badCheckFrame =>
    exact exec_keepsSound_of_linkPart rfl he
  case anchorLoadComplete => exact exec_keepsSound_of_completion (p := .anchorLoad) he
  case headerSlotsReadComplete => exact exec_keepsSound_of_completion (p := .slotsRead) he
  case walkReadComplete => exact exec_keepsSound_of_completion (p := .walkRead) he
  case recoveryHeaderRewriteComplete =>
    exact exec_keepsSound_of_completion (p := .recoveryRewrite) he
  case recoveryClosingHeaderComplete => exact exec_keepsSound_of_completion (p := .recoveryClose) he
  case wipeTransferComplete => exact exec_keepsSound_of_completion (p := .wipe) he
  case wipeHeaderComplete => exact exec_keepsSound_of_completion (p := .wipeHeader) he
  case openingHeaderComplete => exact exec_keepsSound_of_completion (p := .openingHeader) he
  case openRecordComplete => exact exec_keepsSound_of_completion (p := .openRecord) he
  case blockReadComplete => exact exec_keepsSound_of_completion (p := .blockRead) he
  case imageRecordComplete => exact exec_keepsSound_of_completion (p := .imageWrite) he
  case dataWriteComplete => exact exec_keepsSound_of_completion (p := .dataWrite) he
  case commitRecordComplete => exact exec_keepsSound_of_completion (p := .commitRecord) he
  case commitHeaderComplete => exact exec_keepsSound_of_completion (p := .commitHeader) he
  case imageRecordReadComplete => exact exec_keepsSound_of_completion (p := .imageRead) he
  case restoreBlockWriteComplete => exact exec_keepsSound_of_completion (p := .restoreWrite) he
  case undoneRecordComplete => exact exec_keepsSound_of_completion (p := .undoneWrite) he
  case rollbackHeaderComplete => exact exec_keepsSound_of_completion (p := .rollbackHeader) he
  case hostReadTransferComplete => exact exec_keepsSound_of_completion (p := .hostRead) he
  case headerSlotClearComplete => exact exec_keepsSound_of_completion (p := .slotClear) he
  case anchorWriteTransferComplete => exact exec_keepsSound_of_completion (p := .anchorWrite) he
  case formatTransferComplete => exact exec_keepsSound_of_completion (p := .format) he
  case scanReadComplete => exact exec_keepsSound_of_completion (p := .scanRead) he
  case linkJournalReadComplete => exact exec_keepsSound_of_completion (p := .linkRead) he

theorem step_keepsSound {s t : State} (he : step s = .next t) : s.keepsSound t := by
  rw [step_eq] at he
  split at he
  · have h := exec_keepsSound he
    exact h
  · exact State.outside_keepsSound he fun _ h => h

/-- Settles O59. -/
theorem workSoundKept : Obligations.WorkSoundKept := fun _ _ h he => (step_keepsSound he).2.1 h

/-- Settles O13. -/
theorem savedSetAndReservationsKept : Obligations.SavedSetAndReservationsKept :=
  ⟨fun _ _ h he => (step_keepsSound he).1 h, fun _ _ hw hr he => (step_keepsSound he).2.2 hw hr⟩

/-! # Proofs: the invariants at reset (O3) -/

/-- Reset is the beginning of recovery on the blocks at their reset values (R98, R102). -/
theorem State.reset_eq :
    State.reset = State.beginRecovery { State.reset with port := MemoryPort.reset } := rfl

theorem State.reset_keepsSound (s : State) : s.keepsSound State.reset := by
  rw [State.reset_eq]
  exact State.atReset.beginRecovery ⟨rfl, rfl, rfl, rfl, rfl, rfl⟩ s

theorem State.reset_savedSound : State.reset.savedSound := by
  simp [State.savedSound, State.reset, Journal.reset]

theorem State.reset_workSound : State.reset.workSound := by
  refine (State.reset_keepsSound { State.reset with port := MemoryPort.reset }).2.1 ?_
  exact State.atReset.workSound ⟨rfl, rfl, rfl, rfl, rfl, rfl⟩

theorem State.reset_reservationSound : State.reset.reservationSound := by
  refine (State.reset_keepsSound { State.reset with port := MemoryPort.reset }).2.2 ?_ ?_
  · exact State.atReset.workSound ⟨rfl, rfl, rfl, rfl, rfl, rfl⟩
  · exact State.atReset.reservationSound ⟨rfl, rfl, rfl, rfl, rfl, rfl⟩

/-- Settles O3. -/
theorem resetMeetsInvariants : Obligations.ResetMeetsInvariants := by
  have hidle : State.reset.queue = [] ∧ State.reset.host.access = none := ⟨rfl, rfl⟩
  refine ⟨State.reset_mem_wf, ?_, ?_, State.reset_savedSound, ?_, ?_, ?_, ?_, ?_,
    State.reset_workSound, State.reset_reservationSound, ?_⟩
  case refine_1 => simp [State.queueFits, hidle]
  case refine_2 => simp [State.eventsSound, State.reset, EventUnit.reset]
  case refine_3 => simp [State.anchorAreaUnqueued, hidle]
  case refine_4 => simp [State.restsUnderReset, State.reset]
  case refine_5 => simp [State.powerSound, State.reset]
  case refine_6 => simp [State.countersFit, State.reset, GroupController.reset, Scanner.reset]
  case refine_7 => simp [State.responseSound, State.reset, Link.reset]
  case refine_8 => simp [State.copiesWhole, State.reset, AnchorUnit.reset]

end Sys2Proof.Machine

/-! # Proofs: the forward activity and the headers (O48, O49, O55, O57) -/

namespace Sys2Proof.Machine

set_option Elab.async false

/-! ## The choice of work (R37) -/

theorem exec_forwardWorkStart_of_busy {s : State} (hrun : s.running = true)
    (hbusy : s.journal.forward ≠ none) : exec .forwardWorkStart s = .next (State.finish s) := by
  obtain ⟨f, hf⟩ := Option.ne_none_iff_exists'.mp hbusy
  simp only [exec, execForwardWorkStart, State.within_of_running hrun, hf]

/-- Group work that is ready is taken before the queue. -/
theorem exec_forwardWorkStart_of_ready {w : GroupWork} {s : State} (hrun : s.running = true)
    (hfree : s.journal.forward = none) (hhanded : s.journal.handed = some w)
    (hready : State.workReady w s = true) :
    exec .forwardWorkStart s = .next (State.finish (State.beginGroupWork w s)) := by
  simp only [exec, execForwardWorkStart, State.within_of_running hrun, hfree, hhanded, hready,
    if_true]

/-- With no group work ready, the head entry comes under retirement. -/
theorem exec_forwardWorkStart_of_head {e : Entry} {rest : List Entry} {s : State}
    (hrun : s.running = true) (hfree : s.journal.forward = none) (hqueue : s.queue = e :: rest)
    (hhanded : ∀ w, s.journal.handed = some w → State.workReady w s = false) :
    exec .forwardWorkStart s = .next (State.finish (State.beginRetire e s)) := by
  have hhead : State.takeHead s = State.beginRetire e s := by simp only [State.takeHead, hqueue]
  simp only [exec, execForwardWorkStart, State.within_of_running hrun, hfree]
  cases hw : s.journal.handed with
  | none => simp only [hhead]
  | some w => simp only [hhanded w hw, Bool.false_eq_true, if_false, hhead]

/-- The retirement of an entry begins with the read of its block, or with its data write (R38,
R39). -/
theorem State.beginRetire_eq (e : Entry) (s : State) :
    State.beginRetire e s = State.request
      (if Tag.owesImage e.tag then
        { purpose := .blockRead, addr := e.block * 4, body := .read 4 }
      else { purpose := .dataWrite, addr := e.block * 4 + e.first, body := .write e.words })
      { s with journal.forward := some (.retire e false) } := by
  unfold State.beginRetire
  split
  · rfl
  · rfl

/-- The commit waits for the group's own entries only (R12). -/
theorem State.workReady_commit {s : State} (hqueue : ∀ e ∈ s.queue, Tag.isGroup e.tag = false)
    (haccess : s.accessIs AccessPhase.groupWritePending = false) :
    State.workReady .commit s = true := by
  simpa [State.workReady, haccess] using hqueue

/-- A group in OPENING begins with its header, or with the wipe when the numbers are used up (R26,
R44). -/
theorem State.beginGroupWork_opening {h : Header} {s : State} (hh : s.journal.header = some h) :
    State.beginGroupWork .opening s =
      if h.group = 4095 then
        State.wipeStep 8
          { s with journal.handed := none, journal.forward := some (.groupWork .opening 0) }
      else
        State.requestHeader .openingHeader (h.group + 1) h.highWater
          { s with journal.handed := none, journal.forward := some (.groupWork .opening 0) } := by
  simp only [State.beginGroupWork, hh]

/-- The commit begins with the COMMIT record behind the group's images (R30). -/
theorem State.beginGroupWork_commit {h : Header} {s : State} (hh : s.journal.header = some h) :
    State.beginGroupWork .commit s =
      State.requestJournalWrite .commitRecord (imageOffset s.journal.written)
        (commitRecordWords h.group s.journal.written s.group.duration)
        { s with journal.handed := none, journal.forward := some (.groupWork .commit 0) } := by
  simp only [State.beginGroupWork, hh]

theorem State.beginGroupWork_closeRollback {h : Header} {s : State} (cause : Cause) (n : Nat)
    (hh : s.journal.header = some h) :
    State.beginGroupWork (.closeRollback cause n) s =
      State.requestHeader .rollbackHeader h.group (raisedHighWater h.highWater n)
        { s with
          journal.handed := none
          journal.forward := some (.groupWork (.closeRollback cause n) 0) } := by
  simp only [State.beginGroupWork, hh]

theorem State.beginGroupWork_recoveryRewrite {h : Header} {s : State} (walkEnd : Nat)
    (hh : s.journal.header = some h) :
    State.beginGroupWork (.recoveryRewrite walkEnd) s =
      State.requestHeader .recoveryRewrite h.group walkEnd
        { s with
          journal.handed := none
          journal.forward := some (.groupWork (.recoveryRewrite walkEnd) 0) } := by
  simp only [State.beginGroupWork, hh]

theorem State.beginGroupWork_closeRecovery {h : Header} {s : State} (n : Nat)
    (hh : s.journal.header = some h) :
    State.beginGroupWork (.closeRecovery n) s =
      State.requestHeader .recoveryClose h.group (raisedHighWater h.highWater n)
        { s with
          journal.handed := none
          journal.forward := some (.groupWork (.closeRecovery n) 0) } := by
  simp only [State.beginGroupWork, hh]

/-- Settles O48. -/
theorem forwardWorkStarts : Obligations.ForwardWorkStarts := by
  refine ⟨fun e rest s hrun hfree hqueue hhanded => ?_, fun h s hrun hfree hhanded hh hgroup => ?_,
    fun h s hrun hfree hhanded hh hgroup => ?_,
    fun h s hrun hfree hhanded hh hqueue haccess => ?_,
    fun h cause n s hrun hfree hhanded hh => ?_, fun s hrun hbusy => ?_⟩
  · rw [exec_forwardWorkStart_of_head hrun hfree hqueue hhanded, State.beginRetire_eq]
  · rw [exec_forwardWorkStart_of_ready hrun hfree hhanded rfl, State.beginGroupWork_opening hh,
      if_neg hgroup]
  · rw [exec_forwardWorkStart_of_ready hrun hfree hhanded rfl, State.beginGroupWork_opening hh,
      if_pos hgroup]
  · rw [exec_forwardWorkStart_of_ready hrun hfree hhanded (State.workReady_commit hqueue haccess),
      State.beginGroupWork_commit hh]
    rfl
  · rw [exec_forwardWorkStart_of_ready hrun hfree hhanded rfl,
      State.beginGroupWork_closeRollback cause n hh]
    rfl
  · exact exec_forwardWorkStart_of_busy hrun hbusy

/-! ## The wipe and the opening header (R44, R26) -/

/-- Below the high-water the wipe goes on with at most eight zero words. -/
theorem State.wipeStep_of_lt {next : Nat} {h : Header} {s : State}
    (hh : s.journal.header = some h) (hnext : next < h.highWater) :
    State.wipeStep next s = State.requestJournalWrite .wipe next
      (List.replicate (min 8 (h.highWater - next)) 0)
      { s with
        journal.forward := some (.groupWork .opening (next + min 8 (h.highWater - next))) } := by
  have hcount : ¬ min 8 (h.highWater - next) = 0 := by omega
  simp only [State.wipeStep, State.highWater_of_header hh, if_neg hcount]

/-- At the high-water the wipe ends with the header that starts the group numbers again. -/
theorem State.wipeStep_of_ge {next : Nat} {h : Header} {s : State}
    (hh : s.journal.header = some h) (hnext : h.highWater ≤ next) :
    State.wipeStep next s = State.requestHeader .wipeHeader 0 8
      { s with journal.forward := some (.groupWork .opening next) } := by
  have hcount : min 8 (h.highWater - next) = 0 := by omega
  simp only [State.wipeStep, State.highWater_of_header hh, hcount, if_true, Nat.add_zero]

/-- Settles O49. -/
theorem openingWork : Obligations.OpeningWork := by
  refine ⟨⟨fun next h s hh => ⟨fun hnext => ?_, fun hnext => ?_⟩, fun t next s s0 hc hwork => ?_,
    fun t h s s0 hc hwriting => ?_⟩, fun t h s s0 hc hwriting hlive => ?_⟩
  · rw [State.wipeStep_of_lt hh hnext]
    simp only [State.requestJournalWrite, bothLanes, List.map_replicate]
    rfl
  · exact State.wipeStep_of_ge hh hnext
  · refine State.completion_eq hc ?_
    simp only [State.completed_journal, hwork]
  · refine State.completion_eq hc ?_
    rw [State.headerWritten_of_slotWriting (s := State.completed t s0) hwriting]
    rfl
  · refine State.completion_eq hc ?_
    rw [State.headerWritten_of_slotWriting (s := State.completed t s0) hwriting]
    simp only [State.capacity, State.completed_anchor, hlive, if_true]
    rfl

/-! ## The headers of recovery (R108, R110, R111) -/

/-- Settles O55. -/
theorem recoveryHeaders : Obligations.RecoveryHeaders := by
  refine ⟨fun h walkEnd s hrun hfree hhanded hh => ?_, fun h n s hrun hfree hhanded hh => ?_,
    fun t h s s0 hc hwriting => ?_, fun t h n k s s0 hc hwriting hwork => ?_⟩
  · rw [exec_forwardWorkStart_of_ready hrun hfree hhanded rfl,
      State.beginGroupWork_recoveryRewrite walkEnd hh]
  · rw [exec_forwardWorkStart_of_ready hrun hfree hhanded rfl,
      State.beginGroupWork_closeRecovery n hh]
    rfl
  · refine State.completion_eq hc ?_
    rw [State.headerWritten_of_slotWriting (s := State.completed t s0) hwriting]
    rfl
  · refine State.completion_eq hc ?_
    simp only [State.completed_journal, hwork,
      State.headerWritten_of_slotWriting (s := State.completed t s0) hwriting]
    rfl

/-! ## The format (R46, R94, R97) -/

/-- A store formats under the anchor it is about to switch to, a FORMAT under the live one. -/
theorem State.formatAnchor_eq (s : State) :
    s.formatAnchor =
      if (s.anchor.job.any (fun j => j.store)) = true then s.anchor.staging
      else s.anchor.live := by
  unfold State.formatAnchor
  cases s.anchor.job with
  | none => rfl
  | some j => simp

theorem State.formatAnchor_of_job {j : ConfigJob} {s : State} (hj : s.anchor.job = some j) :
    s.formatAnchor = if j.store then s.anchor.staging else s.anchor.live := by
  simp only [State.formatAnchor, hj]

/-- The two headers a format writes, check words and all (R176). -/
theorem formatHeader_words :
    Header.words (formatHeader .a) = [1, 0, 8, 0x3E88#16] ∧
      Header.words (formatHeader .b) = [2, 0, 8, 0x3E87#16] := by
  decide

/-- The transfers of a format: the records area in eights, then slot A, then slot B. -/
theorem State.requestFormat_eq (k : Nat) (s : State) :
    State.requestFormat k s = State.request
      (if k < 64 * anchorLength s.formatAnchor then
        { purpose := .format, addr := anchorBase s.formatAnchor * 512 + 8 * k
          body := .write (List.replicate 8 (.both, 0)) }
      else if k = 64 * anchorLength s.formatAnchor then
        { purpose := .format, addr := anchorBase s.formatAnchor * 512
          body := .write [(.both, 1), (.both, 0), (.both, 8), (.both, 0x3E88#16)] }
      else
        { purpose := .format, addr := anchorBase s.formatAnchor * 512 + 4
          body := .write [(.both, 2), (.both, 0), (.both, 8), (.both, 0x3E87#16)] })
      { s with journal.forward := some (.groupWork .format k) } := by
  obtain ⟨ha, hb⟩ := formatHeader_words
  unfold State.requestFormat formatTransfer
  split
  · rfl
  · split
    · simp only [journalWord, Nat.add_zero, ha, bothLanes, List.map_cons, List.map_nil]
    · simp only [journalWord, hb, bothLanes, List.map_cons, List.map_nil]

/-- The format ends: a store switches, a FORMAT is announced and ends in IDLE. -/
theorem State.endFormat_of_job {j : ConfigJob} {s : State} (hj : s.anchor.job = some j) :
    State.endFormat s =
      let s1 := { s with journal.forward := none, journal.header := some (formatHeader .b) }
      if j.store then State.switchAnchor j s1
      else State.enterIdle (State.raise (.anchorStored true) { s1 with anchor.job := none }) := by
  simp only [State.endFormat, hj]

/-- Settles O57. -/
theorem formatProceeds : Obligations.FormatProceeds := by
  refine ⟨fun s hrun hfree hhanded hquiet => ?_, fun k s => ?_,
    fun t j k s s0 hc hj hwork => ?_⟩
  · exact exec_forwardWorkStart_of_ready hrun hfree hhanded hquiet
  · rw [State.requestFormat_eq, State.formatAnchor_eq]
  · refine State.completion_eq hc ?_
    have hjob : (State.completed t s0).anchor.job = some j := hj
    simp only [State.completed_journal, hwork, State.formatAnchor_of_job hjob,
      State.endFormat_of_job hjob]
    rfl

end Sys2Proof.Machine

/-! # Proofs: whole transfers, and the reservation of a group write (O7, O45) -/

namespace Sys2Proof.Machine

set_option Elab.async false

/-! ## Words in memory (R38, R140) -/

/-- A read gives the words in ascending order. -/
theorem Memory.words_getD (m : Memory) (k n : Nat) {i : Nat} (hi : i < n) :
    (Memory.words m k n).getD i 0 = Memory.wordAt m (k + i) := by
  induction n generalizing k i with
  | zero => omega
  | succ n ih =>
    cases i with
    | zero => rfl
    | succ i =>
      rw [Memory.words, List.getD_cons_succ, ih (k + 1) (by omega)]
      congr 1
      omega

/-- A write stores each of its words in the lanes of its lane set. -/
theorem Memory.read_putWords {m : Memory} (h : m.wf) (k : Nat) (ws : List (LaneSet × Word))
    {i : Nat} (hi : i < ws.length) :
    Memory.read (Memory.putWords m k ws) (2 * (k + i)) =
        (if laneLow (ws.getD i (.none, 0)).1 = true
          then (ws.getD i (.none, 0)).2.extractLsb' 0 8 else Memory.read m (2 * (k + i))) ∧
      Memory.read (Memory.putWords m k ws) (2 * (k + i) + 1) =
        (if laneHigh (ws.getD i (.none, 0)).1 = true
          then (ws.getD i (.none, 0)).2.extractLsb' 8 8
          else Memory.read m (2 * (k + i) + 1)) := by
  induction ws generalizing m k i with
  | nil => cases hi
  | cons x rest ih =>
    have hwf := Memory.putWord_wf k x.1 x.2 h
    cases i with
    | zero =>
      simp only [Memory.putWords, List.getD_cons_zero, Nat.add_zero]
      rw [Memory.read_putWords_outside hwf (k + 1) rest (by omega),
        Memory.read_putWords_outside hwf (k + 1) rest (by omega), Memory.read_putWord h,
        Memory.read_putWord h]
      simp
    | succ i =>
      obtain ⟨hlow, hhigh⟩ := ih hwf (k + 1) (Nat.lt_of_succ_lt_succ hi)
      have hplace : k + 1 + i = k + (i + 1) := by omega
      rw [hplace] at hlow hhigh
      simp only [Memory.putWords, List.getD_cons_succ, hlow, hhigh]
      rw [Memory.read_putWord_other h _ _ _ (by omega),
        Memory.read_putWord_other h _ _ _ (by omega)]
      exact ⟨rfl, rfl⟩

/-- Settles O7. -/
theorem transferEffect : Obligations.TransferEffect := by
  refine ⟨fun t m n hbody => ?_, fun t m ws hwf hbody => ⟨fun a ha => ?_, fun i hi => ?_⟩⟩
  · simp only [Transfer.memoryAfter, Transfer.wordsRead, hbody]
    exact ⟨trivial, Memory.words_length m t.addr n, fun i hi => Memory.words_getD m t.addr n hi⟩
  · simp only [Transfer.stores, hbody] at ha
    simp only [Transfer.memoryAfter, hbody]
    exact Memory.read_putWords_outside hwf _ _ (by omega)
  · simp only [Transfer.memoryAfter, hbody]
    simpa only [laneLow_iff, laneHigh_iff, decide_eq_true_eq]
      using Memory.read_putWords hwf t.addr ws hi

/-! ## The reservation of a group write (R34, R36, R51, R133) -/

theorem Access.allNone_iff {a : Access} (hw : a.write = true) :
    Access.allNone a = true ↔ ∀ l ∈ a.lanes, l = LaneSet.none := by
  simp [Access.allNone, hw]

/-- A group write with every lane set none goes no further (R51). -/
theorem State.classify_of_allNone {a : Access} {s : State}
    (hv : State.verdict a s = .postGroup) (hnone : Access.allNone a = true) :
    State.classify a s = State.setPhase a .silent s := by
  simp only [State.classify, hv, hnone, if_true]

theorem State.classify_of_lanes {a : Access} {s : State}
    (hv : State.verdict a s = .postGroup) (hlanes : Access.allNone a = false) :
    State.classify a s = State.reserve a s := by
  simp only [State.classify, hv, hlanes, Bool.false_eq_true, if_false]

theorem State.inSaved_iff (block : Nat) (s : State) :
    s.inSaved block = true ↔ ∃ b ∈ s.journal.saved, b.block = block := by
  simp [State.inSaved]

/-- A block of the saved-block set reserves nothing (R34). -/
theorem State.reserve_of_saved {a : Access} {s : State}
    (hsaved : s.inSaved (Access.block a) = true) :
    State.reserve a s =
      State.post a { tag := .group s.groupNumber false, claimed := false } s := by
  simp only [State.reserve, hsaved, if_true]

/-- With the image capacity reached the write is refused (R133). -/
theorem State.reserve_of_full {a : Access} {s : State}
    (hsaved : s.inSaved (Access.block a) = false)
    (hfull : s.journal.written + s.journal.reserved = s.capacity) :
    State.reserve a s =
      State.raise (.journalFull s.groupNumber (Access.block a))
        (State.setPhase a (.refused .journalFull) s) := by
  simp only [State.reserve, hsaved, Bool.false_eq_true, if_false, hfull, if_true]

/-- Otherwise an image is reserved, and the block claimed if the set has room (R34, R36). -/
theorem State.reserve_of_room {a : Access} {s : State}
    (hsaved : s.inSaved (Access.block a) = false)
    (hroom : s.journal.written + s.journal.reserved ≠ s.capacity) :
    State.reserve a s =
      State.post a
        { tag := .group s.groupNumber true, claimed := decide (s.journal.saved.length < 32) }
        { s with
          journal.reserved := s.journal.reserved + 1
          journal.saved :=
            if s.journal.saved.length < 32 then
              s.journal.saved ++ [{ block := Access.block a, state := .claimed }]
            else s.journal.saved } := by
  simp only [State.reserve, hsaved, Bool.false_eq_true, if_false, if_neg hroom, decide_eq_true_eq,
    Config.savedPlaces]

/-- Settles O45. -/
theorem groupWriteReserved : Obligations.GroupWriteReserved := by
  refine fun a s hv hw => ⟨fun hnone => ?_, fun hlanes => ⟨fun hsaved => ?_, fun hnew => ?_⟩⟩
  · exact State.classify_of_allNone hv ((Access.allNone_iff hw).mpr hnone)
  all_goals
    have hreserve : State.classify a s = State.reserve a s := by
      refine State.classify_of_lanes hv ?_
      rw [← Bool.not_eq_true, Access.allNone_iff hw]
      simpa using hlanes
    rw [hreserve]
  · rw [State.reserve_of_saved ((State.inSaved_iff _ s).mpr hsaved)]
    rfl
  · have hunsaved := (State.inSaved_eq_false_iff _ s).mpr hnew
    refine ⟨fun hfull => ?_, fun hroom => ?_⟩
    · rw [State.reserve_of_full hunsaved hfull]
      rfl
    · rw [State.reserve_of_room hunsaved hroom]
      rfl

end Sys2Proof.Machine

/-! # Proofs: the journal's structures as they are written and as they are read (O26, O30) -/

namespace Sys2Proof.Machine

set_option Elab.async false

/-! ## Check words (R176) -/

theorem wordSum_append (ws : List Word) (w : Word) : wordSum (ws ++ [w]) = wordSum ws + w := by
  simp [wordSum]

/-- The check word makes the words sum to the fixed value. -/
theorem wordSum_withCheck (ws : List Word) : wordSum (withCheck ws) = 0x3E91#16 := by
  rw [withCheck, wordSum_append, checkWord, BitVec.add_comm]
  exact BitVec.sub_add_cancel _ _

theorem wordSum_of_four (w0 w1 w2 w3 : Word) : wordSum [w0, w1, w2, w3] = w0 + w1 + w2 + w3 := by
  simp [wordSum]

/-! ## Headers and records as they are stored (R26 to R30, R178) -/

/-- A header write goes to the slot that does not hold the current header (R26). -/
theorem State.requestHeader_of_header {h : Header} {s : State} (p : Purpose) (g hw : Nat)
    (hh : s.journal.header = some h) :
    State.requestHeader p g hw s =
      State.requestJournalWrite p (Slot.offset h.slot.other) (Header.words (Header.next h g hw))
        { s with journal.slotWriting := some (Header.next h g hw) } := by
  simp only [State.requestHeader, hh]
  rfl

theorem Slot.other_eq (x : Slot) : x.other = if x = .a then .b else .a := by
  cases x <;> rfl

theorem Slot.offset_other (x : Slot) : Slot.offset x.other = if x = .a then 4 else 0 := by
  cases x <;> rfl

/-- A record's first word: the kind in bits 15 to 12, the group in bits 11 to 0 (R27). -/
theorem recordHead_eq (g : Nat) :
    recordHead .opened g = BitVec.ofNat 16 (0x1000 + g) ∧
      recordHead .image g = BitVec.ofNat 16 (0x2000 + g) ∧
      recordHead .commit g = BitVec.ofNat 16 (0x3000 + g) ∧
      recordHead .undone g = BitVec.ofNat 16 (0x4000 + g) := by
  simp [recordHead, RecordKind.code]

/-- An IMAGE record names its block in two words (R29). -/
theorem imageRecordBlock_imageRecordWords (g : Nat) {b : Nat} (old : List Word)
    (hb : b < 2 ^ 21) : imageRecordBlock (imageRecordWords g b old) = b := by
  have hhigh : (wordOf (b / 65536)).toNat = b / 65536 := by
    rw [BitVec.toNat_ofNat, Nat.mod_eq_of_lt]
    omega
  have hlow : (wordOf (b % 65536)).toNat = b % 65536 := by
    rw [BitVec.toNat_ofNat, Nat.mod_eq_of_lt]
    omega
  have hwords : imageRecordBlock (imageRecordWords g b old) =
      (wordOf (b / 65536)).toNat % 32 * 65536 + (wordOf (b % 65536)).toNat := rfl
  rw [hwords, hhigh, hlow]
  omega

/-- Settles O26. -/
theorem structuresWritten : Obligations.StructuresWritten := by
  refine ⟨fun p g hw s h hh => ?_, fun g hg => ⟨fun a c => ?_, fun b w0 w1 w2 w3 hb => ?_,
    fun n d => ?_, fun n cause => ?_⟩⟩
  all_goals obtain ⟨hopened, himage, hcommit, hundone⟩ := recordHead_eq g
  · refine ⟨checkWord [h.serial + 1, wordOf g, wordOf hw], ?_, ?_⟩
    · rw [← wordSum_of_four]
      exact wordSum_withCheck [h.serial + 1, wordOf g, wordOf hw]
    · rw [State.requestHeader_of_header p g hw hh, ← Slot.offset_other, ← Slot.other_eq]
      rfl
  · rw [← hopened]
    exact ⟨_, rfl, wordSum_withCheck _⟩
  · rw [← himage]
    exact ⟨_, rfl, wordSum_withCheck _, imageRecordBlock_imageRecordWords g _ hb, rfl⟩
  · rw [← hcommit]
    exact ⟨_, rfl, wordSum_withCheck _⟩
  · rw [← hundone]
    refine ⟨checkWord [recordHead .undone g, wordOf n, wordOf cause.code], ?_,
      wordSum_withCheck _⟩
    cases cause <;> rfl

/-! ## Slots (R24) -/

theorem newerSerial_iff (a b : Word) :
    newerSerial a b = true ↔ 1 ≤ (a - b).toNat ∧ (a - b).toNat ≤ 32767 := by
  simp [newerSerial]

theorem slotHeader_eq (slot : Slot) (len : Nat) (w0 w1 w2 w3 : Word) :
    slotHeader slot len [w0, w1, w2, w3] =
      if w0 + w1 + w2 + w3 = 0x3E91#16 ∧ w1.toNat ≤ 4095 ∧ 8 ≤ w2.toNat ∧ w2.toNat ≤ len then
        some { serial := w0, group := w1.toNat, highWater := w2.toNat, slot := slot }
      else none := by
  simp [slotHeader, checks, wordSum_of_four, wordAtIndex, and_assoc]

/-- The newest valid slot. -/
theorem newestHeader_append (len : Nat) {wa : List Word} (wb : List Word) (ha : wa.length = 4) :
    newestHeader len (wa ++ wb) =
      match slotHeader .a len wa, slotHeader .b len wb with
      | some a, none => some a
      | none, some b => some b
      | none, none => none
      | some a, some b =>
        if 1 ≤ (b.serial - a.serial).toNat ∧ (b.serial - a.serial).toNat ≤ 32767 then some b
        else some a := by
  simp only [newestHeader, List.take_left' ha, List.drop_left' ha, newerSerial_iff]
  cases slotHeader .a len wa <;> cases slotHeader .b len wb <;> rfl

/-! ## Records (R106) -/

theorem recordKind_eq_some_iff (w : Word) (k : RecordKind) :
    recordKind w = some k ↔ w.toNat / 4096 = RecordKind.code k := by
  unfold recordKind
  split <;> rename_i hcode
  case h_5 => cases k <;> simp_all [RecordKind.code]
  all_goals cases k <;> simp [hcode, RecordKind.code]

theorem RecordKind.length_eq (k : RecordKind) : k.length = if k = .image then 8 else 4 := by
  cases k <;> rfl

/-- A record is taken into the run when every test holds (R106). -/
theorem walkRecord_eq_some_iff (len g p n : Nat) (ws : List Word) (k : RecordKind) :
    walkRecord len g p n ws = some k ↔
      (wordAtIndex ws 0).toNat / 4096 = RecordKind.code k ∧
      (wordAtIndex ws 0).toNat % 4096 = g ∧ p + k.length ≤ len ∧ k.length ≤ ws.length ∧
      wordSum (ws.take k.length) = 0x3E91#16 ∧ (p = 8 ↔ k = .opened) ∧
      (k = .commit ∨ k = .undone → (wordAtIndex ws 1).toNat = n) := by
  unfold walkRecord
  rw [← recordKind_eq_some_iff]
  cases hkind : recordKind (wordAtIndex ws 0) with
  | none => simp
  | some kind =>
    have hlength : (ws.take kind.length).length = kind.length ↔ kind.length ≤ ws.length := by
      rw [List.length_take]
      omega
    have hplace : (if p = 8 then kind == .opened else kind != .opened) = true ↔
        (p = 8 ↔ kind = .opened) := by
      split <;> simp_all
    simp only [Bool.and_eq_true, beq_iff_eq, decide_eq_true_eq, hlength, hplace, recordGroup,
      checks, Config.checkSum, Option.ite_none_right_eq_some, and_assoc]
    by_cases hk : kind = k
    · subst hk
      cases kind <;> simp
    · simp [hk]

/-! ## Images (R69, R109) -/

/-- The blocks an image may not name: above the memory top, in blocks 0 to 10, or in the journal
area. -/
theorem imageBlockAllowed_iff (a : List Word) (b : Nat) :
    imageBlockAllowed a b = true ↔
      ¬ (anchorTop a < b / 128 ∨ b ≤ 10 ∨
        (anchorBase a ≤ b / 128 ∧ b / 128 < anchorBase a + anchorLength a)) := by
  have hallowed : imageBlockAllowed a b = true ↔
      granuleOf b ≤ anchorTop a ∧ ¬ b ≤ 10 ∧
        ¬ (anchorBase a ≤ granuleOf b ∧ granuleOf b < anchorBase a + anchorLength a) := by
    simp [imageBlockAllowed, inAnchorArea, inJournalArea, and_assoc, imp_iff_not_or]
  rw [hallowed, granuleOf]
  omega

theorem imageRecordOk_iff (a : List Word) (g : Nat) {ws : List Word} (hlength : ws.length = 8) :
    imageRecordOk a g ws = true ↔
      recordKind (wordAtIndex ws 0) = some .image ∧ (wordAtIndex ws 0).toNat % 4096 = g ∧
      wordSum ws = 0x3E91#16 ∧ imageBlockAllowed a (imageRecordBlock ws) = true := by
  simp [imageRecordOk, hlength, checks, recordGroup, and_assoc]

/-- Settles O30. -/
theorem journalReadTests : Obligations.JournalReadTests := by
  refine ⟨⟨slotHeader_eq, fun len wa wb ha => newestHeader_append len wb ha⟩,
    fun len g p n ws k => ?_, fun a g ws hlength => ?_, fun a blocks => ?_⟩
  · rw [walkRecord_eq_some_iff, RecordKind.length_eq]
  · rw [imageRecordOk_iff a g hlength, recordKind_eq_some_iff, imageBlockAllowed_iff, not_or,
      not_or, Nat.not_lt, Nat.not_le]
    rfl
  · have hbad : ∀ b, (!imageBlockAllowed a b) = true ↔
        (anchorTop a < b / 128 ∨ b ≤ 10 ∨
          (anchorBase a ≤ b / 128 ∧ b / 128 < anchorBase a + anchorLength a)) := fun b => by
      rw [Bool.not_eq_true', ← Bool.not_eq_true, imageBlockAllowed_iff, not_not]
    refine ⟨?_, fun k => ?_⟩
    · simp only [firstForbidden, List.findIdx?_eq_none_iff, ← Bool.not_eq_true, hbad]
    · rw [firstForbidden, List.findIdx?_eq_some_iff_getElem]
      simp only [hbad]
      constructor
      · rintro ⟨hk, hfirst, hbefore⟩
        refine ⟨hk, ?_, fun j hj => ?_⟩
        · rwa [List.getD_eq_getElem _ _ hk]
        · rw [List.getD_eq_getElem _ _ (hj.trans hk)]
          exact hbefore j hj
      · rintro ⟨hk, hfirst, hbefore⟩
        refine ⟨hk, ?_, fun j hj => ?_⟩
        · rwa [List.getD_eq_getElem _ _ hk] at hfirst
        · have hbefore := hbefore j hj
          rwa [List.getD_eq_getElem _ _ (hj.trans hk)] at hbefore

end Sys2Proof.Machine

/-! # Proofs: what an abort or age timeout does (O24) -/

namespace Sys2Proof.Machine

set_option Elab.async false

/-! ## The forward activity and its request (R41, R61) -/

section
variable {e : Entry} {r : Bool} {s : State}

/-- A data write in flight goes on. -/
theorem State.abortForward_of_writing (hforward : s.journal.forward = some (.retire e r))
    (hgroup : Tag.isGroup e.tag = true) (hwriting : s.inFlightIs .dataWrite = true) :
    State.abortForward s = s := by
  simp only [State.abortForward, hforward, hgroup, hwriting, if_true]

/-- Another transfer in flight ends as that of a removed entry. -/
theorem State.abortForward_of_flight (hforward : s.journal.forward = some (.retire e r))
    (hgroup : Tag.isGroup e.tag = true) (hwriting : s.inFlightIs .dataWrite = false)
    (hflight : s.inFlightFor .forward = true) :
    State.abortForward s = { s with journal.forward := some (.retire e true) } := by
  simp only [State.abortForward, hforward, hgroup, hwriting, hflight, Bool.false_eq_true, if_true,
    if_false]

/-- With nothing in flight the retirement is dropped, and its request with it. -/
theorem State.abortForward_of_waiting (hforward : s.journal.forward = some (.retire e r))
    (hgroup : Tag.isGroup e.tag = true) (hflight : s.inFlightFor .forward = false) :
    State.abortForward s = State.withdraw .forward { s with journal.forward := none } := by
  have hwriting : s.inFlightIs .dataWrite = false := by
    rw [← Bool.not_eq_true, s.inFlightIs_iff]
    rintro ⟨t, ht, hp⟩
    simp [State.inFlightFor, ht, hp, Purpose.requester] at hflight
  simp only [State.abortForward, hforward, hgroup, hwriting, hflight, Bool.false_eq_true, if_true,
    if_false]

/-- The retirement of an entry of no group goes on. -/
theorem State.abortForward_of_plain (hforward : s.journal.forward = some (.retire e r))
    (hplain : Tag.isGroup e.tag = false) : State.abortForward s = s := by
  simp only [State.abortForward, hforward, hplain, Bool.false_eq_true, if_false]
  rw [← hforward]

theorem State.abortForward_of_other (hother : ∀ e r, s.journal.forward ≠ some (.retire e r)) :
    State.abortForward s = s := by
  unfold State.abortForward
  split
  · rename_i e r hforward
    exact absurd hforward (hother e r)
  · rfl

end

/-- The abort takes the forward activity and the port from `State.abortForward`. -/
theorem State.takeAbort_forward (cause : Cause) {s t : State} (h : State.abortForward s = t) :
    (State.takeAbort cause s).journal.forward = t.journal.forward ∧
      (State.takeAbort cause s).port = t.port := by
  subst h
  exact ⟨rfl, rfl⟩

/-- Nothing is reserved any more, and the rollback is recorded with its cause (R41, R66). -/
theorem State.takeAbort_journal (cause : Cause) (s : State) :
    (State.takeAbort cause s).journal =
      { s.journal with
        forward := (State.abortForward s).journal.forward
        reserved := 0
        backward := .rollbackDue s.groupNumber cause } := by
  rw [State.takeAbort_eq]
  show { (State.abortForward s).journal with
    reserved := 0, backward := .rollbackDue s.groupNumber cause } = _
  rw [s.abortForward_journal]

theorem State.takeAbort_group (cause : Cause) (s : State) :
    (State.takeAbort cause s).group =
      { s.group with state := .rollingBack, closePending := false, openPending := false } := by
  rw [State.takeAbort_eq]
  rfl

/-- The group's entries leave the queue wherever they stand, but for a head whose data write is in
flight (R61). -/
theorem State.takeAbort_queue (cause : Cause) (s : State) :
    (State.takeAbort cause s).queue = removeGroup (s.inFlightIs .dataWrite) s.queue := rfl

theorem removeGroup_false (q : List Entry) :
    removeGroup false q = q.filter (fun e => !Tag.isGroup e.tag) := by
  cases q <;> rfl

/-! ## The host access (R54, R55, R61) -/

/-- The phase an abort leaves an access in, its release marked. -/
theorem State.takeAbort_host (cause : Cause) (s : State) :
    (State.takeAbort cause s).host =
      { s.host with
        access := s.host.access.map (fun a =>
          { a with
            phase := AccessPhase.markRelease
              (abortAccess (Lookup.journaled (s.lookup (Access.block a))) a.phase) }) } := by
  rw [State.takeAbort_eq]
  simp only [State.markRelease, State.aborted, Option.map_map]
  rfl

theorem Lookup.journaled_iff (l : Lookup) :
    l.journaled = true ↔ ∃ i, l = .region .journal i ∨ l = .region .strict i := by
  cases l with
  | unmapped | anchorArea | journalArea => simp [Lookup.journaled]
  | region attr i => cases attr <;> simp [Lookup.journaled]

theorem abortAccess_markRelease_of_other {journaled : Bool} {p : AccessPhase}
    (hpost : p.postPending = false) (hqueued : p ≠ .readQueued) (hheld : ∀ d, p ≠ .held d) :
    AccessPhase.markRelease (abortAccess journaled p) = p := by
  cases p with
  | waiting | forming => cases hpost
  | readQueued => exact absurd rfl hqueued
  | held d => exact absurd rfl (hheld d)
  | _ => rfl

/-- Settles O24. -/
theorem abortTaken : Obligations.AbortTaken := by
  refine ⟨fun cause s => ⟨State.takeAbort_group cause s, ?_, ?_, ?_, ?_, ?_, ?_, fun hidle => ?_,
    fun e rest hwriting hqueue => ?_, fun e r hforward hgroup => ⟨fun hwriting => ?_,
      fun hwriting hflight => ?_, fun hflight => ?_⟩, fun e r hforward hplain => ?_,
    fun hother => ?_, ?_⟩, fun cause s => ⟨fun hnone => ?_, fun a ha =>
      ⟨AccessPhase.markRelease
        (abortAccess (Lookup.journaled (s.lookup (Access.block a))) a.phase),
        ?_, fun post hp => ?_, fun post hp => ?_, fun hp => ⟨fun i hi => ?_, fun hno => ?_⟩,
        fun d hp => ?_, fun hpost hqueued hheld => ?_⟩⟩⟩
  iterate 6 rw [State.takeAbort_journal]
  · rw [State.takeAbort_queue, hidle, removeGroup_false]
  · rw [State.takeAbort_queue, hwriting, hqueue]
    rfl
  · exact State.takeAbort_forward cause (State.abortForward_of_writing hforward hgroup hwriting)
  · exact State.takeAbort_forward cause
      (State.abortForward_of_flight hforward hgroup hwriting hflight)
  · exact State.takeAbort_forward cause (State.abortForward_of_waiting hforward hgroup hflight)
  · exact State.takeAbort_forward cause (State.abortForward_of_plain hforward hplain)
  · exact State.takeAbort_forward cause (State.abortForward_of_other hother)
  · simp
  · rw [State.takeAbort_host, hnone, Option.map_none, ← hnone]
  · simp [State.takeAbort_host, ha]
  · simp only [hp, abortAccess]
    split
    · rfl
    · rfl
  · simp only [hp, abortAccess]
    split
    · rfl
    · rfl
  · rw [hp, abortAccess, (Lookup.journaled_iff _).mpr ⟨i, hi⟩]
    rfl
  · have hplain : (s.lookup (Access.block a)).journaled = false := by
      rw [← Bool.not_eq_true, Lookup.journaled_iff]
      rintro ⟨i, hi | hi⟩
      · exact (hno i).1 hi
      · exact (hno i).2 hi
    rw [hp, abortAccess, hplain]
    rfl
  · rw [hp]
    rfl
  · exact abortAccess_markRelease_of_other hpost hqueued hheld

end Sys2Proof.Machine

/-! # Proofs: the places of the posting queue (O11, O14)

What the queue holds and what the access on the host bus claims of it move together: every operation
but a classification, a place taken and a data phase leaves or drops them. -/

namespace Sys2Proof.Machine

/-! ## The claim on the queue -/

/-- What the access on the host bus claims of the queue: the block of a write that will form an
entry, and whether it already has its place (R50, R53). -/
def postClaim (access : Option Access) : Option (Nat × Bool) :=
  access.bind fun a =>
    match a.phase with
    | .forming _ => some (Access.block a, true)
    | .waiting _ => some (Access.block a, false)
    | _ => none

@[simp] theorem postClaim_none : postClaim none = none := rfl

/-- A phase that forms no entry claims nothing. -/
theorem postClaim_eq_none {a : Access} (h : a.phase.postPending = false) :
    postClaim (some a) = none := by
  cases hp : a.phase <;> simp_all [postClaim, AccessPhase.postPending]

theorem postClaim_forming {a : Access} {p : Post} (h : a.phase = .forming p) :
    postClaim (some a) = some (Access.block a, true) := by
  simp [postClaim, h]

theorem postClaim_waiting {a : Access} {p : Post} (h : a.phase = .waiting p) :
    postClaim (some a) = some (Access.block a, false) := by
  simp [postClaim, h]

theorem State.queueFits_iff (s : State) :
    s.queueFits ↔ s.queue.length ≤ 8 ∧
      ∀ b, postClaim s.host.access = some (b, true) → s.queue.length < 8 := by
  cases ha : s.host.access with
  | none => simp [State.queueFits, ha]
  | some a => cases hp : a.phase <;> simp [State.queueFits, ha, hp, postClaim]

theorem State.anchorAreaUnqueued_iff (s : State) :
    s.anchorAreaUnqueued ↔ (∀ e ∈ s.queue, 10 < e.block) ∧
      ∀ b place, postClaim s.host.access = some (b, place) → 10 < b := by
  cases ha : s.host.access with
  | none => simp [State.anchorAreaUnqueued, ha]
  | some a =>
    cases hp : a.phase <;>
      simp [State.anchorAreaUnqueued, ha, hp, postClaim, AccessPhase.postPending]

/-! ## Keeping both invariants -/

section
variable {s s' t : State}

/-- The queue's two invariants go on from one state to another. -/
def State.keepsQueue (s t : State) : Prop :=
  (s.queueFits → t.queueFits) ∧ (s.anchorAreaUnqueued → t.anchorAreaUnqueued)

theorem State.keepsQueue.refl (s : State) : s.keepsQueue s := ⟨id, id⟩

theorem State.keepsQueue.trans (h : s.keepsQueue s') (h' : s'.keepsQueue t) : s.keepsQueue t :=
  ⟨h'.1 ∘ h.1, h'.2 ∘ h.2⟩

/-- Entries leave the queue at most, and the claim stands or is dropped. -/
def State.claimsWithin (s t : State) : Prop :=
  t.queue.Sublist s.queue ∧
    (postClaim t.host.access = none ∨ postClaim t.host.access = postClaim s.host.access)

theorem State.claimsWithin.refl (s : State) : s.claimsWithin s := ⟨.refl _, .inr rfl⟩

/-- The frame lemmas of an operation say that it leaves both. -/
theorem State.claimsWithin.unmoved (hqueue : t.queue = s.queue := by simp)
    (hclaim : postClaim t.host.access = postClaim s.host.access := by simp) : s.claimsWithin t :=
  ⟨hqueue ▸ .refl _, .inr hclaim⟩

theorem State.claimsWithin.trans (h : s.claimsWithin s') (h' : s'.claimsWithin t) :
    s.claimsWithin t := by
  obtain ⟨hqueue, hclaim⟩ := h
  obtain ⟨hqueue', hclaim'⟩ := h'
  refine ⟨hqueue'.trans hqueue, ?_⟩
  rcases hclaim' with hclaim' | hclaim'
  · exact .inl hclaim'
  · rwa [hclaim']

theorem State.claimsWithin.ite {c : Prop} {_ : Decidable c} {a b : State} (ha : s.claimsWithin a)
    (hb : s.claimsWithin b) : s.claimsWithin (if c then a else b) := by
  split
  · exact ha
  · exact hb

theorem State.claimsWithin.keepsQueue (h : s.claimsWithin t) : s.keepsQueue t := by
  obtain ⟨hqueue, hclaim⟩ := h
  refine ⟨fun hs => ?_, fun hs => ?_⟩
  · obtain ⟨hlength, hplace⟩ := s.queueFits_iff.mp hs
    have hle := hqueue.length_le
    refine t.queueFits_iff.mpr ⟨by omega, fun b hb => ?_⟩
    rcases hclaim with hclaim | hclaim <;> rw [hclaim] at hb
    · cases hb
    · have := hplace b hb
      omega
  · obtain ⟨hblocks, hblock⟩ := s.anchorAreaUnqueued_iff.mp hs
    refine t.anchorAreaUnqueued_iff.mpr
      ⟨fun e he => hblocks e (hqueue.subset he), fun b p hb => ?_⟩
    rcases hclaim with hclaim | hclaim <;> rw [hclaim] at hb
    · cases hb
    · exact hblock b p hb

theorem State.keepsQueue.unmoved (hqueue : t.queue = s.queue := by simp)
    (hclaim : postClaim t.host.access = postClaim s.host.access := by simp) : s.keepsQueue t :=
  (State.claimsWithin.unmoved hqueue hclaim).keepsQueue

/-! ## A claim entered -/

/-- The access claims nothing, or newly a block beyond the anchor area, with a place only when one
is free. -/
theorem State.keepsQueue_of_claim (hqueue : t.queue = s.queue)
    (hclaim : postClaim t.host.access = none ∨
      ∃ b, (s.anchorAreaUnqueued → 10 < b) ∧
        postClaim t.host.access = some (b, decide (s.queue.length < 8))) :
    s.keepsQueue t := by
  refine ⟨fun hs => ?_, fun hs => ?_⟩
  · obtain ⟨hlength, -⟩ := s.queueFits_iff.mp hs
    refine t.queueFits_iff.mpr ⟨hqueue ▸ hlength, fun b hb => ?_⟩
    rcases hclaim with hclaim | ⟨b', -, hclaim⟩ <;> rw [hclaim] at hb
    · cases hb
    · simpa [hqueue] using (Prod.mk.inj (Option.some.inj hb)).2
  · obtain ⟨hblocks, -⟩ := s.anchorAreaUnqueued_iff.mp hs
    refine t.anchorAreaUnqueued_iff.mpr ⟨hqueue ▸ hblocks, fun b p hb => ?_⟩
    rcases hclaim with hclaim | ⟨_, hbeyond, hclaim⟩ <;> rw [hclaim] at hb
    · cases hb
    · cases hb
      exact hbeyond hs

/-- No write to the anchor area is posted (R83, R131). -/
theorem State.block_of_posted {a : Access}
    (h : State.verdict a s = .postPlain ∨ State.verdict a s = .postGroup) :
    10 < Access.block a := by
  by_contra hle
  have harea : inAnchorArea (Access.block a) = true := by simpa [inAnchorArea] using hle
  have hlookup : s.lookup (Access.block a) = .anchorArea ∨
      s.lookup (Access.block a) = .unmapped := by
    simp only [State.lookup, lookupLive, lookupBuiltIn, harea, if_true]
    (repeat' split) <;> simp
  have hnot : lookupVerdict s.group.state (s.lookup (Access.block a)) a.write ≠ .postPlain ∧
      lookupVerdict s.group.state (s.lookup (Access.block a)) a.write ≠ .postGroup := by
    rcases hlookup with hlookup | hlookup <;> cases a.write <;> simp [hlookup, lookupVerdict]
  unfold State.verdict at h
  (repeat' split at h) <;> simp_all

/-- A posted write claims its place, or waits for one (R50, R53). -/
theorem State.post_claim (a : Access) (p : Post) (s : State) :
    postClaim (State.post a p s).host.access =
      some (Access.block a, decide (s.queue.length < 8)) := by
  by_cases h : s.queue.length < 8 <;> simp [State.post, State.setPhase, postClaim, h, Access.block]

theorem State.reserve_claim (a : Access) (s : State) :
    postClaim (State.reserve a s).host.access = none ∨
      postClaim (State.reserve a s).host.access =
        some (Access.block a, decide (s.queue.length < 8)) := by
  simp only [State.reserve]
  split
  · exact .inr (State.post_claim _ _ _)
  · split
    · exact .inl rfl
    · exact .inr (State.post_claim _ _ _)

/-- Only a write that is posted claims a place (R130). -/
theorem State.keepsQueue_classify (a : Access) (s : State) :
    s.keepsQueue (State.classify a s) := by
  refine State.keepsQueue_of_claim (by simp) ?_
  unfold State.classify
  cases hv : State.verdict a s with
  | refuse reason | hold => exact .inl rfl
  | serve =>
    dsimp only
    split
    · exact .inl rfl
    · exact .inl (by simp [State.requestHostRead, State.setPhase, postClaim])
  | postPlain =>
    dsimp only
    split
    · exact .inl rfl
    · exact .inr ⟨_, fun _ => State.block_of_posted (.inl hv), State.post_claim _ _ _⟩
  | postGroup =>
    dsimp only
    split
    · exact .inl rfl
    · exact (State.reserve_claim a s).imp_right
        fun hclaim => ⟨_, fun _ => State.block_of_posted (.inr hv), hclaim⟩

/-- The waiting write takes a free place (R53). -/
theorem State.keepsQueue_takePlace {a : Access} {p : Post} (ha : s.host.access = some a)
    (hp : a.phase = .waiting p) (hfree : s.queue.length < 8) :
    s.keepsQueue (State.setPhase a (.forming p) s) := by
  refine State.keepsQueue_of_claim rfl (.inr ⟨Access.block a, fun hs => ?_, ?_⟩)
  · exact (s.anchorAreaUnqueued_iff.mp hs).2 _ _ (ha ▸ postClaim_waiting hp)
  · simp [State.setPhase, postClaim, hfree, Access.block]

/-! ## Data phases -/

/-- An answered data phase leaves the claim, or the access has left. -/
theorem State.claimsWithin_answerPhase {a : Access} (ha : s.host.access = some a) (x : Answer)
    (received : List Word) : s.claimsWithin (State.answerPhase a x received s) := by
  refine ⟨.refl _, ?_⟩
  simp only [State.answerPhase, ha]
  split
  · exact .inr rfl
  · exact .inl rfl

theorem State.claimsWithin_earlyPhase {a : Access} (ha : s.host.access = some a) :
    s.claimsWithin (State.earlyPhase a s) := by
  unfold State.earlyPhase
  split
  · refine .ite (.ite ?_ (.refl s)) (.refl s)
    exact State.claimsWithin_answerPhase (s := { s with freeCount := s.freeCount + 1 }) ha _ _
  · exact .refl s

/-- The last data phase of a forming access fills its place (R50, R52). -/
theorem State.keepsQueue_formingPhase {a : Access} {p : Post} (ha : s.host.access = some a)
    (hp : a.phase = .forming p) (data : Word) : s.keepsQueue (State.formingPhase a p data s) := by
  have hclaim : postClaim s.host.access = some (Access.block a, true) := ha ▸ postClaim_forming hp
  unfold State.formingPhase
  dsimp only
  split
  · exact (State.claimsWithin_answerPhase ha _ _).keepsQueue
  · rename_i hlast
    refine ⟨fun hs => ?_, fun hs => ?_⟩
    · have hplace := (s.queueFits_iff.mp hs).2 _ hclaim
      refine (State.queueFits_iff _).mpr ⟨?_, ?_⟩
      · simpa using hplace
      · simp [State.answerPhase, if_neg hlast]
    · obtain ⟨hblocks, hblock⟩ := s.anchorAreaUnqueued_iff.mp hs
      refine (State.anchorAreaUnqueued_iff _).mpr ⟨fun e he => ?_, ?_⟩
      · rcases List.mem_append.mp he with he | he
        · exact hblocks e he
        · rw [List.mem_singleton.mp he]
          exact hblock _ _ hclaim
      · simp [State.answerPhase, if_neg hlast]

theorem State.keepsQueue_takeDataPhase (data : Word) (s : State) :
    s.keepsQueue (State.takeDataPhase data s) := by
  unfold State.takeDataPhase
  split
  · exact .refl s
  · rename_i a ha
    cases hp : a.phase with
    | refused | silent | discarding | readDone =>
      exact (State.claimsWithin_answerPhase ha _ _).keepsQueue
    | forming p => exact State.keepsQueue_formingPhase ha hp data
    | held | waiting | readQueued => exact .refl s
    | readRequested => exact (State.claimsWithin_earlyPhase ha).keepsQueue

/-! ## Operations that leave the claim -/

/-- A moment of release concerns a held access only (R137). -/
@[simp] theorem State.markRelease_claim (s : State) :
    postClaim (State.markRelease s).host.access = postClaim s.host.access := by
  cases ha : s.host.access with
  | none => simp [State.markRelease, ha]
  | some a =>
    cases hp : a.phase <;>
      simp [State.markRelease, ha, hp, postClaim, AccessPhase.markRelease, Access.block]

@[simp] theorem State.enter_claim (g : GroupState) (s : State) :
    postClaim (State.enter g s).host.access = postClaim s.host.access := by
  simp [State.enter_eq]

@[simp] theorem State.enterOpening_claim (s : State) :
    postClaim (State.enterOpening s).host.access = postClaim s.host.access := by
  simp [State.enterOpening]

@[simp] theorem State.enterCommitting_claim (s : State) :
    postClaim (State.enterCommitting s).host.access = postClaim s.host.access := by
  simp [State.enterCommitting]

@[simp] theorem State.enterIdle_claim (s : State) :
    postClaim (State.enterIdle s).host.access = postClaim s.host.access := by
  simp only [State.enterIdle]
  split <;> simp

@[simp] theorem State.haltJournal_claim (c : UnreadableCause) (o : Nat) (s : State) :
    postClaim (State.haltJournal c o s).host.access = postClaim s.host.access := by
  simp [State.haltJournal]

@[simp] theorem State.finishRecovery_claim (s : State) :
    postClaim (State.finishRecovery s).host.access = postClaim s.host.access := by
  simp [State.finishRecovery]

/-- Start-up leaves the host bus port empty (R99). -/
@[simp] theorem State.startUp_claim (straps : BitVec 2) (s : State) :
    postClaim (State.startUp straps s).host.access = none := by
  simp [State.startUp, State.beginRecovery, State.cleared, HostPort.reset]

@[simp] theorem State.takeRise_claim (s : State) :
    postClaim (State.takeRise s).host.access = postClaim s.host.access := by
  unfold State.takeRise
  split <;> simp

@[simp] theorem State.takeFall_claim (s : State) :
    postClaim (State.takeFall s).host.access = postClaim s.host.access := by
  unfold State.takeFall
  split <;> simp

@[simp] theorem State.leaveOpening_claim (s : State) :
    postClaim (State.leaveOpening s).host.access = postClaim s.host.access := by
  unfold State.leaveOpening
  (repeat' split) <;> simp

@[simp] theorem State.leaveCommitting_claim (s : State) :
    postClaim (State.leaveCommitting s).host.access = postClaim s.host.access := by
  unfold State.leaveCommitting
  split <;> simp

@[simp] theorem State.leaveRollback_claim (s : State) :
    postClaim (State.leaveRollback s).host.access = postClaim s.host.access := by
  unfold State.leaveRollback
  split <;> simp

@[simp] theorem State.endAnchorLoad_claim (s : State) :
    postClaim (State.endAnchorLoad s).host.access = postClaim s.host.access := by
  unfold State.endAnchorLoad
  split <;> simp

@[simp] theorem State.loadReads_claim (n : Nat) (s : State) :
    postClaim (State.loadReads n s).host.access = postClaim s.host.access := by
  induction n generalizing s with
  | zero => rfl
  | succ n ih =>
    unfold State.loadReads
    (repeat' split) <;> simp [ih]

@[simp] theorem State.requestWalk_claim (p : Nat) (bs : List Nat) (s : State) :
    postClaim (State.requestWalk p bs s).host.access = postClaim s.host.access := by
  simp [State.requestWalk]

@[simp] theorem State.runClosed_claim (w : Nat) (s : State) :
    postClaim (State.runClosed w s).host.access = postClaim s.host.access := by
  unfold State.runClosed
  split <;> simp

@[simp] theorem State.runOpen_claim (bs : List Nat) (s : State) :
    postClaim (State.runOpen bs s).host.access = postClaim s.host.access := by
  unfold State.runOpen
  split <;> simp

@[simp] theorem State.walkStops_claim (p : Nat) (bs : List Nat) (s : State) :
    postClaim (State.walkStops p bs s).host.access = postClaim s.host.access := by
  unfold State.walkStops
  split <;> simp

@[simp] theorem State.walkOn_claim (p : Nat) (bs : List Nat) (s : State) :
    postClaim (State.walkOn p bs s).host.access = postClaim s.host.access := by
  unfold State.walkOn
  split <;> simp

@[simp] theorem State.enterConfiguring_claim (j : ConfigJob) (s : State) :
    postClaim (State.enterConfiguring j s).host.access = postClaim s.host.access := by
  simp [State.enterConfiguring]

@[simp] theorem State.switchAnchor_claim (j : ConfigJob) (s : State) :
    postClaim (State.switchAnchor j s).host.access = postClaim s.host.access := by
  unfold State.switchAnchor State.switchTimeBase
  split <;> simp

@[simp] theorem State.endFormat_claim (s : State) :
    postClaim (State.endFormat s).host.access = postClaim s.host.access := by
  unfold State.endFormat
  (repeat' split) <;> simp

@[simp] theorem State.takeStoreAnchor_claim (s : State) :
    postClaim (State.takeStoreAnchor s).host.access = postClaim s.host.access := by
  unfold State.takeStoreAnchor
  (repeat' split) <;> simp

@[simp] theorem State.takeFormat_claim (s : State) :
    postClaim (State.takeFormat s).host.access = postClaim s.host.access := by
  unfold State.takeFormat
  split <;> simp

/-! ## Operations that leave the host port -/

@[simp] theorem State.setStage_host (j : ConfigJob) (stage : JobStage) (s : State) :
    (State.setStage j stage s).host = s.host := rfl

@[simp] theorem State.requestSlotClear_host (j : ConfigJob) (s : State) :
    (State.requestSlotClear j s).host = s.host := by
  simp [State.requestSlotClear]

@[simp] theorem State.requestAnchorWrite_host (j : ConfigJob) (k : Nat) (s : State) :
    (State.requestAnchorWrite j k s).host = s.host := by
  simp [State.requestAnchorWrite]

@[simp] theorem State.beginAnchorWrite_host (j : ConfigJob) (s : State) :
    (State.beginAnchorWrite j s).host = s.host := by
  simp [State.beginAnchorWrite]

@[simp] theorem State.requestDataWrite_host (e : Entry) (s : State) :
    (State.requestDataWrite e s).host = s.host := by
  simp [State.requestDataWrite]

@[simp] theorem State.takeHead_host (s : State) :
    (State.takeHead s).host = s.host := by
  unfold State.takeHead State.beginRetire
  (repeat' split) <;> simp

@[simp] theorem State.requestFormat_host (k : Nat) (s : State) :
    (State.requestFormat k s).host = s.host := by
  simp [State.requestFormat]

@[simp] theorem State.wipeStep_host (n : Nat) (s : State) :
    (State.wipeStep n s).host = s.host := by
  simp only [State.wipeStep]
  split <;> simp

@[simp] theorem State.beginGroupWork_host (w : GroupWork) (s : State) :
    (State.beginGroupWork w s).host = s.host := by
  unfold State.beginGroupWork
  (repeat' split) <;> simp

@[simp] theorem State.requestOpeningHeader_host (s : State) :
    (State.requestOpeningHeader s).host = s.host := by
  simp [State.requestOpeningHeader]

@[simp] theorem State.foldScanRead_host (ws : List Word) (s : State) :
    (State.foldScanRead ws s).host = s.host := by
  simp only [State.foldScanRead, State.endPeriodicScan, State.endRequestedScan]
  (repeat' split) <;> simp

@[simp] theorem State.takeExpiry_host (s : State) :
    (State.takeExpiry s).host = s.host := by
  unfold State.takeExpiry
  (repeat' split) <;> simp

@[simp] theorem State.takeScanRegion_host (i : Byte) (s : State) :
    (State.takeScanRegion i s).host = s.host := by
  unfold State.takeScanRegion
  (repeat' split) <;> simp

@[simp] theorem State.takeReadJournal_host (o : Word) (n : Byte) (s : State) :
    (State.takeReadJournal o n s).host = s.host := by
  unfold State.takeReadJournal
  (repeat' split) <;> simp

@[simp] theorem State.takeNextEvent_host (s : State) :
    (State.takeNextEvent s).host = s.host := by
  unfold State.takeNextEvent
  (repeat' split) <;> simp

@[simp] theorem State.takeSetMask_host (m : Word) (s : State) :
    (State.takeSetMask m s).host = s.host := by
  unfold State.takeSetMask
  (repeat' split) <;> simp

@[simp] theorem State.takeCopyRead_host (i : Instr) (c : List Word) (o n : Byte) (s : State) :
    (State.takeCopyRead i c o n s).host = s.host := by
  unfold State.takeCopyRead
  (repeat' split) <;> simp

@[simp] theorem State.takeStage_host (o n : Byte) (ws : List Word) (s : State) :
    (State.takeStage o n ws s).host = s.host := by
  unfold State.takeStage
  (repeat' split) <;> simp

@[simp] theorem State.takeCopyLive_host (s : State) :
    (State.takeCopyLive s).host = s.host := by
  unfold State.takeCopyLive
  (repeat' split) <;> simp

@[simp] theorem State.powerFailScan_host (s : State) :
    (State.powerFailScan s).host = s.host := by
  simp [State.powerFailScan]

@[simp] theorem State.powerFailLink_host (s : State) :
    (State.powerFailLink s).host = s.host := by
  unfold State.powerFailLink
  (repeat' split) <;> simp

@[simp] theorem State.endFrame_frame (received : List Byte) (s : State) :
    (State.endFrame received s).queue = s.queue ∧ (State.endFrame received s).host = s.host := by
  simp only [State.endFrame]
  split <;> simp

/-! ## Claims dropped -/

theorem State.claimsWithin_cleared (s t : State) : s.claimsWithin (State.cleared t) :=
  ⟨List.nil_sublist _, .inl rfl⟩

theorem State.claimsWithin_startUp (s t : State) (straps : BitVec 2) :
    s.claimsWithin (State.startUp straps t) := by
  refine ⟨?_, .inl (State.startUp_claim straps t)⟩
  simp [State.startUp, State.beginRecovery, State.cleared]

theorem removeGroup_sublist (writing : Bool) (q : List Entry) :
    (removeGroup writing q).Sublist q := by
  cases q with
  | nil => exact .refl _
  | cons e rest =>
    cases writing with
    | true => exact List.filter_sublist.cons_cons e
    | false => exact List.filter_sublist

/-- An abort drops the group's entries, and the claim of a group write (R54, R55, R61). -/
theorem State.claimsWithin_takeAbort (cause : Cause) (s : State) :
    s.claimsWithin (State.takeAbort cause s) := by
  refine ⟨removeGroup_sublist _ _, ?_⟩
  rw [State.takeAbort_host]
  cases ha : s.host.access with
  | none => exact .inl rfl
  | some a =>
    obtain ⟨addr, write, lanes, phase, answered, received⟩ := a
    cases phase with
    | waiting p | forming p =>
      simp only [Option.map_some, abortAccess]
      split
      · exact .inl rfl
      · exact .inr rfl
    | readQueued =>
      simp only [Option.map_some, abortAccess]
      split <;> exact .inl rfl
    | _ => exact .inl rfl

theorem State.claimsWithin_takeAgeTimeout (s : State) :
    s.claimsWithin (State.takeAgeTimeout s) :=
  .ite (State.claimsWithin_takeAbort _ s) (.refl s)

theorem State.claimsWithin_settle (s : State) : s.claimsWithin (State.settle s) := by
  have hage := State.claimsWithin_takeAgeTimeout s
  exact hage.trans (.unmoved (by simp [State.settle]) (by simp [State.settle]))

theorem State.claimsWithin_finish (s : State) : s.claimsWithin (State.finish s) :=
  .unmoved

/-- A held access, and a write waiting for a place, is refused (R118). -/
theorem State.claimsWithin_powerFailAccess (s : State) :
    s.claimsWithin (State.powerFailAccess s) := by
  unfold State.powerFailAccess
  split
  · exact .refl s
  · split
    · exact ⟨.refl _, .inl rfl⟩
    · exact ⟨.refl _, .inl rfl⟩
    · exact .refl s

theorem State.claimsWithin_takeAbortGroup (s : State) :
    s.claimsWithin (State.takeAbortGroup s) := by
  unfold State.takeAbortGroup
  split
  · exact State.claimsWithin_takeAbort _ s
  · exact .ite (.refl s) (.refl s)
  all_goals exact .refl s

/-! ## The forms a meaning has -/

theorem State.keepsQueue_of_next
    (he : (Host.Outcome.next s' : Host.Outcome State Fault Refusal) = .next t)
    (h : s.claimsWithin s') : s.keepsQueue t := by
  obtain rfl := Host.Outcome.next.inj he
  exact h.keepsQueue

theorem State.outside_keepsQueue {f : State → State} (he : State.outside f s = .next t)
    (hf : ∀ s : State, s.keepsQueue (f s)) : s.keepsQueue t := by
  obtain rfl := State.outside_eq_next.mp he
  split
  · exact ((State.claimsWithin_settle s).keepsQueue.trans (hf _)).trans
      (State.claimsWithin_finish _).keepsQueue
  · exact .refl s

theorem State.within_keepsQueue {f : State → State} (he : State.within f s = .next t)
    (hf : ∀ s : State, s.keepsQueue (f s)) : s.keepsQueue t := by
  obtain rfl := State.within_eq_next.mp he
  split
  · exact (hf s).trans (State.claimsWithin_finish _).keepsQueue
  · exact .refl s

/-- A command of the link: nothing outside an awaiting frame. -/
theorem State.link_keepsQueue {f : State → State}
    (he : State.outside (State.inFrame f) s = .next t)
    (hf : ∀ s : State, s.claimsWithin (f s)) : s.keepsQueue t :=
  State.outside_keepsQueue he fun s => (State.claimsWithin.ite (hf s) (.refl s)).keepsQueue

/-- A link command that leaves the queue and the claim, seen on its frame lemmas. -/
theorem State.link_keepsQueue_of_eq {f : State → State}
    (he : State.outside (State.inFrame f) s = .next t)
    (hqueue : ∀ s : State, (f s).queue = s.queue := by simp)
    (hclaim : ∀ s : State, postClaim (f s).host.access = postClaim s.host.access := by simp) :
    s.keepsQueue t :=
  State.link_keepsQueue he fun s => .unmoved (hqueue s) (hclaim s)

/-- A completion: its owner goes on with the port free, or nothing completes. -/
theorem State.completion_keepsQueue {p : Purpose}
    {after : Transfer → List Word → State → State}
    (he : State.outside (State.complete p after) s = .next t)
    (hafter : ∀ tr ws (s : State), s.claimsWithin (after tr ws s)) : s.keepsQueue t := by
  refine State.outside_keepsQueue he fun s => ?_
  rcases State.complete_cases p after s with ⟨tr, -, -, heq⟩ | ⟨-, heq⟩
  · rw [heq]
    exact State.claimsWithin.keepsQueue (s := s) (hafter _ _ _)
  · rw [heq]
    exact .refl s

/-! ## The commands -/

/-- Every purpose of a transfer (R140). -/
def Purpose.all : List Purpose :=
  [.anchorLoad, .slotsRead, .walkRead, .imageRead, .restoreWrite, .undoneWrite, .recoveryRewrite,
    .recoveryClose, .wipe, .wipeHeader, .openingHeader, .openRecord, .blockRead, .imageWrite,
    .dataWrite, .commitRecord, .commitHeader, .rollbackHeader, .hostRead, .slotClear, .anchorWrite,
    .format, .scanRead, .linkRead]

/-- The command is the completion of a transfer. -/
def isCompletion (c : Instr) : Bool := Purpose.all.any (fun p => p.completion == c)

theorem eq_completion_of_isCompletion {c : Instr} (h : isCompletion c = true) :
    ∃ p, c = Purpose.completion p := by
  obtain ⟨p, -, hp⟩ := List.any_eq_true.mp h
  exact ⟨p, (beq_iff_eq.mp hp).symm⟩

/-- The commands of the supply and of the lines. -/
theorem exec_keepsQueue_of_lineEvent {c : Instr} (hline : isLineEvent c = true)
    (he : exec c s = .next t) : s.keepsQueue t := by
  cases c <;> simp only [isLineEvent, Bool.false_eq_true] at hline
  case powerOn straps =>
    exact State.keepsQueue_of_next he (.ite (.refl s)
      (.ite (State.claimsWithin_cleared s _) (State.claimsWithin_startUp s _ straps)))
  case powerLoss =>
    exact State.keepsQueue_of_next he (.ite (State.claimsWithin_cleared s _) (.refl s))
  case rstAssertion =>
    exact State.keepsQueue_of_next he
      (.ite (.refl s) (.ite (State.claimsWithin_cleared s _) (.refl s)))
  case rstRelease straps =>
    exact State.keepsQueue_of_next he
      (.ite (.ite (State.claimsWithin_startUp s _ straps) (.refl s)) (.refl s))
  case grpRise =>
    simp only [exec, execGrpRise] at he
    split at he
    · exact State.keepsQueue_of_next he (.refl s)
    · split at he
      · exact State.outside_keepsQueue he fun s => .unmoved
      · exact State.keepsQueue_of_next he (.refl s)
  case grpFall =>
    simp only [exec, execGrpFall] at he
    split at he
    · split at he
      · exact State.outside_keepsQueue he fun s => .unmoved
      · exact State.keepsQueue_of_next he (.refl s)
    · exact State.keepsQueue_of_next he (.refl s)
  case pfailAssertion =>
    refine State.keepsQueue_of_next he (.ite (.refl s) (.ite ?_ (.refl s)))
    refine (State.claimsWithin_settle s).trans (.trans
      (State.claimsWithin_powerFailAccess { State.settle s with lines.pfail := true }) ?_)
    exact .unmoved
  case pfailDeassertion =>
    refine State.keepsQueue_of_next he (.ite ?_ (.refl s))
    have hclosed : s.claimsWithin (if s.running then State.settle s else s) :=
      .ite (State.claimsWithin_settle s) (.refl s)
    exact hclosed
  case lselAssertion =>
    simp only [exec, execLselAssertion] at he
    split at he
    · exact State.keepsQueue_of_next he (.refl s)
    · split at he
      · exact State.outside_keepsQueue he fun s => .refl s
      · exact State.keepsQueue_of_next he (.refl s)
  case lselDeassertion =>
    simp only [exec, execLselDeassertion] at he
    split at he
    · split at he
      · exact State.outside_keepsQueue he fun s => .unmoved
      · exact State.keepsQueue_of_next he (.refl s)
    · exact State.keepsQueue_of_next he (.refl s)

/-- The commands of the link: only ABORT_GROUP moves the queue. -/
theorem exec_keepsQueue_of_linkPart {c : Instr} (hlink : Instr.isLinkPart c = true)
    (he : exec c s = .next t) : s.keepsQueue t := by
  cases c
  case abortGroup => exact State.link_keepsQueue he State.claimsWithin_takeAbortGroup
  case stage =>
    simp only [exec, execStage] at he
    exact State.link_keepsQueue he fun s => .ite .unmoved (.refl s)
  case unknownCommand =>
    simp only [exec, execUnknownCommand] at he
    exact State.link_keepsQueue he fun s => .ite (.refl s) (.refl s)
  case badCheckFrame =>
    simp only [exec, execBadCheckFrame] at he
    exact State.link_keepsQueue he fun s => .ite (.refl s) (.refl s)
  case status | nextEvent | setMask | readLive | readStage | copyLiveToStage | storeAnchor |
      format | readJournal | scanRegion => exact State.link_keepsQueue_of_eq he
  all_goals exact absurd (show false = true from hlink) Bool.false_ne_true

/-- The completions: the entry whose data is written leaves, and a read's words come back. -/
theorem exec_keepsQueue_of_completion {c : Instr} (hc : ∃ p, c = Purpose.completion p)
    (he : exec c s = .next t) : s.keepsQueue t := by
  obtain ⟨p, rfl⟩ := hc
  cases p <;> simp only [Purpose.completion] at he
  case anchorLoad =>
    exact State.outside_keepsQueue he fun s => .unmoved
  case dataWrite =>
    exact State.completion_keepsQueue he fun _ _ s => ⟨List.drop_sublist 1 s.queue, .inr rfl⟩
  case hostRead =>
    refine State.completion_keepsQueue he fun _ _ s => ?_
    split
    · exact .ite ⟨.refl _, .inl rfl⟩ (.refl s)
    · exact .refl s
  case linkRead | recoveryRewrite | wipeHeader | openingHeader | openRecord | commitRecord |
      commitHeader =>
    exact State.completion_keepsQueue he fun _ _ s => .unmoved
  case scanRead =>
    exact State.completion_keepsQueue he fun _ _ s => .ite .unmoved .unmoved
  case restoreWrite =>
    refine State.completion_keepsQueue he fun _ _ s => ?_
    split
    · exact .ite .unmoved .unmoved
    · exact .refl s
  all_goals
    refine State.completion_keepsQueue he fun _ _ s => ?_
    (repeat' split) <;> exact .unmoved

theorem exec_keepsQueue {c : Instr} (he : exec c s = .next t) : s.keepsQueue t := by
  cases c
  case hostAddressPhase p =>
    simp only [exec, execHostAddressPhase] at he
    refine State.outside_keepsQueue he fun s => ?_
    split
    · exact State.keepsQueue_classify (AddressPhase.access p) { s with host.answer := none }
    · exact .refl s
  case hostDataPhase => exact State.outside_keepsQueue he (State.keepsQueue_takeDataPhase _)
  case heldAccessRelease =>
    simp only [exec, execHeldAccessRelease] at he
    refine State.within_keepsQueue he fun s => ?_
    split
    · split
      · exact State.keepsQueue_classify _ s
      · exact .refl s
    · exact .refl s
  case waitingWriteTakesPlace =>
    simp only [exec, execWaitingWriteTakesPlace] at he
    refine State.within_keepsQueue he fun s => ?_
    split
    · rename_i a ha
      split
      · rename_i p hp
        split
        · exact State.keepsQueue_takePlace ha hp ‹_›
        · exact .refl s
      · exact .refl s
    · exact .refl s
  case queuedReadProceeds =>
    simp only [exec, execQueuedReadProceeds] at he
    refine State.within_keepsQueue he fun s => ?_
    split
    · rename_i a ha
      refine State.claimsWithin.keepsQueue (.ite ⟨by simp, .inl ?_⟩ (.refl s))
      simp [State.requestHostRead, State.setPhase, postClaim]
    · exact .refl s
  case tick =>
    simp only [exec, execTick] at he
    exact State.outside_keepsQueue he fun s =>
      State.claimsWithin.keepsQueue (.ite (by exact .refl s) (.refl s))
  case ageTimeout =>
    exact State.within_keepsQueue he fun s => (State.claimsWithin_takeAgeTimeout s).keepsQueue
  case scanIntervalExpiry =>
    simp only [exec, execScanIntervalExpiry] at he
    exact State.within_keepsQueue he fun s =>
      State.claimsWithin.keepsQueue (.ite .unmoved (.refl s))
  case safeEntry =>
    simp only [exec, execSafeEntry] at he
    exact State.within_keepsQueue he fun s =>
      State.claimsWithin.keepsQueue (.ite (by exact .refl s) (.refl s))
  case duePeriodicScanStart =>
    exact State.within_keepsQueue he fun s => .unmoved
  case forwardWorkStart | storeWorkStart | backwardActivityStart =>
    simp only [exec, execForwardWorkStart, execStoreWorkStart, execBackwardActivityStart] at he
    refine State.within_keepsQueue he fun s => State.claimsWithin.keepsQueue ?_
    (repeat' split) <;> exact .unmoved
  case powerOn | powerLoss | rstAssertion | rstRelease | grpRise | grpFall | pfailAssertion |
      pfailDeassertion | lselAssertion | lselDeassertion =>
    exact exec_keepsQueue_of_lineEvent rfl he
  case status | nextEvent | abortGroup | setMask | readLive | readStage | stage | copyLiveToStage |
      storeAnchor | format | readJournal | scanRegion | unknownCommand | badCheckFrame =>
    exact exec_keepsQueue_of_linkPart rfl he
  all_goals exact exec_keepsQueue_of_completion (eq_completion_of_isCompletion rfl) he

/-- Every step keeps the queue's two invariants. -/
theorem step_keepsQueue (he : step s = .next t) : s.keepsQueue t := by
  rw [step_eq] at he
  split at he
  · have hkeeps := exec_keepsQueue he
    exact hkeeps
  · exact State.outside_keepsQueue he fun s => .refl s

end

/-- Settles O11. -/
theorem queueFitsKept : Obligations.QueueFitsKept := fun _ _ h he => (step_keepsQueue he).1 h

/-- Settles O14. -/
theorem anchorAreaUnqueuedKept : Obligations.AnchorAreaUnqueuedKept :=
  fun _ _ h he => (step_keepsQueue he).2 h

end Sys2Proof.Machine

/-! # Proofs: power-fail (O33) -/

namespace Sys2Proof.Machine

section
variable {s s0 : State}

/-! ## The host bus port (R54, R118, R139) -/

@[simp] theorem State.powerFailAccess_rest (s : State) :
    (State.powerFailAccess s).group = s.group ∧ (State.powerFailAccess s).anchor = s.anchor ∧
    (State.powerFailAccess s).port = s.port ∧ (State.powerFailAccess s).scanner = s.scanner ∧
    (State.powerFailAccess s).link = s.link ∧
    (State.powerFailAccess s).freeCount = s.freeCount ∧
    (State.powerFailAccess s).events.mask = s.events.mask := by
  unfold State.powerFailAccess
  (repeat' split) <;> exact ⟨rfl, rfl, rfl, rfl, rfl, rfl, rfl⟩

theorem State.powerFailAccess_of_held {a : Access} {d : Bool} (ha : s.host.access = some a)
    (hp : a.phase = .held d) : State.powerFailAccess s = State.refuseAccess .powerFail a s := by
  simp only [State.powerFailAccess, ha, hp]

theorem State.powerFailAccess_of_waiting {a : Access} {p : Post} (ha : s.host.access = some a)
    (hp : a.phase = .waiting p) :
    State.powerFailAccess s =
      State.refuseAccess .powerFail a (State.withdrawReservation a p s) := by
  simp only [State.powerFailAccess, ha, hp]

theorem State.powerFailAccess_of_other (hwaiting : s.accessIs AccessPhase.isWaiting = false)
    (hheld : ∀ a d, s.host.access = some a → a.phase ≠ .held d) :
    State.powerFailAccess s = s := by
  unfold State.powerFailAccess
  split
  · rfl
  · rename_i a ha
    rw [State.accessIs_of_some ha, AccessPhase.isWaiting_eq_false_iff] at hwaiting
    split
    · exact absurd ‹_› (hheld a _ ha)
    · exact absurd ‹_› (hwaiting _)
    · rfl

/-! ## The scanner (R156) -/

theorem State.powerFailScan_eq (s : State) :
    State.powerFailScan s =
      { s with
        scanner :=
          { s.scanner with scan := .none, due := s.scanner.due || s.scanner.scan == .periodic }
        port.discard :=
          s.port.discard || (s.scanner.scan != .none && s.inFlightIs .scanRead)
        port.requests.scanner :=
          if s.scanner.scan = .none then s.port.requests.scanner else none } := by
  by_cases h : s.scanner.scan = .none
  · simp [State.powerFailScan, State.abandonScan, h]
  · simp [State.powerFailScan, State.abandonScan, State.withdraw, Requests.put, h,
      bne_iff_ne.mpr h]

/-! ## The link (R119, R169, R174) -/

theorem State.powerFailLink_of_none (h : s.port.requests.link = none) :
    State.powerFailLink s = s := by
  simp [State.powerFailLink, h]

theorem State.powerFailLink_of_waiting (h : s.port.requests.link ≠ none) :
    State.powerFailLink s = State.endLinkRead .busy [] (State.withdraw .link s) := by
  obtain ⟨tr, htr⟩ := Option.ne_none_iff_exists'.mp h
  simp [State.powerFailLink, htr]

theorem State.settleReadStatus_eq (st : LinkStatus) (s : State) :
    State.settleReadStatus st s =
      { s with link.status :=
          if s.link.code = 0x0B ∧ s.link.status = 0x00 then LinkStatus.code st
          else s.link.status } := by
  unfold State.settleReadStatus
  split <;> rfl

/-- A read whose frame stands is answered after the filler already shifted (log entry 28). -/
theorem State.endLinkRead_of_answering (st : LinkStatus) (data : List Byte)
    (h : s.link.read = .outstanding true) :
    State.endLinkRead st data s =
      { s with
        link :=
          { s.link with
            read := .none
            frame := .answered
            response := responsePart st data
            fillers := Config.freeFillers s.freeCount
            status :=
              if s.link.code = 0x0B ∧ s.link.status = 0x00 then LinkStatus.code st
              else s.link.status }
        freeCount := s.freeCount + 1 } := by
  simp only [State.endLinkRead, h, State.settleReadStatus_eq]
  rfl

/-- A read whose frame has ended goes unanswered. -/
theorem State.endLinkRead_of_unheard (st : LinkStatus) (data : List Byte)
    (h : s.link.read ≠ .outstanding true) :
    State.endLinkRead st data s =
      { s with
        link :=
          { s.link with
            read := .none
            status :=
              if s.link.code = 0x0B ∧ s.link.status = 0x00 then LinkStatus.code st
              else s.link.status } } := by
  unfold State.endLinkRead
  split
  · exact absurd ‹_› h
  · exact State.settleReadStatus_eq st _

/-! ## The assertion -/

/-- The bridge as PFAIL leaves it, before its power condition is set. -/
def State.powerFailed (s : State) : State :=
  State.powerFailLink (State.powerFailScan (State.powerFailAccess
    { s with lines.pfail := true }))

theorem exec_pfailAssertion (h : s.closesTo s0) (hlow : s0.lines.pfail = false) :
    exec .pfailAssertion s = .next
      { s0.powerFailed with
        power := if s0.powerFailed.workPending then .draining else .safe } := by
  have hlow' : s.lines.pfail = false := h.lines_eq ▸ hlow
  obtain ⟨hrun, rfl⟩ := h
  simp only [exec, execPfailAssertion, hlow', hrun, Bool.false_eq_true, if_false, if_true]
  rfl

@[simp] theorem State.powerFailLink_rest (s : State) :
    (State.powerFailLink s).group = s.group ∧ (State.powerFailLink s).journal = s.journal ∧
    (State.powerFailLink s).anchor = s.anchor ∧ (State.powerFailLink s).events = s.events ∧
    (State.powerFailLink s).scanner = s.scanner ∧
    (State.powerFailLink s).port = { s.port with requests.link := none } := by
  by_cases h : s.port.requests.link = none
  · rw [State.powerFailLink_of_none h]
    simp [← h]
  · simp [State.powerFailLink_of_waiting h, State.withdraw, Requests.put]

/-- Of the access, the journal and the events only the refusal at the host bus port makes something
else (R118). -/
theorem State.powerFailed_refusal (s : State) :
    s.powerFailed.host = (State.powerFailAccess { s with lines.pfail := true }).host ∧
    s.powerFailed.journal = (State.powerFailAccess { s with lines.pfail := true }).journal ∧
    s.powerFailed.events = (State.powerFailAccess { s with lines.pfail := true }).events := by
  simp [State.powerFailed, State.powerFailScan_eq]

theorem State.powerFailed_frame (s : State) :
    s.powerFailed.lines = { s.lines with pfail := true } ∧ s.powerFailed.group = s.group ∧
    s.powerFailed.queue = s.queue ∧ s.powerFailed.anchor = s.anchor ∧
    s.powerFailed.mem = s.mem ∧ s.powerFailed.events.mask = s.events.mask ∧
    s.powerFailed.pending = s.pending := by
  simp [State.powerFailed, State.powerFailScan_eq]

theorem State.powerFailed_port (s : State) :
    s.powerFailed.port =
      { s.port with
        discard := s.port.discard || (s.scanner.scan != .none && s.inFlightIs .scanRead)
        requests.scanner := if s.scanner.scan = .none then s.port.requests.scanner else none
        requests.link := none } := by
  simp [State.powerFailed, State.powerFailScan_eq, State.inFlightIs]

theorem State.powerFailed_scanner (s : State) :
    s.powerFailed.scanner =
      { s.scanner with scan := .none, due := s.scanner.due || s.scanner.scan == .periodic } := by
  simp [State.powerFailed, State.powerFailScan_eq]

/-- No journal read waits: the link is left alone. -/
theorem State.powerFailed_link_of_none (h : s.port.requests.link = none) :
    s.powerFailed.link = s.link ∧ s.powerFailed.freeCount = s.freeCount := by
  rw [State.powerFailed, State.powerFailLink_of_none (by simp [State.powerFailScan_eq, h])]
  simp [State.powerFailScan_eq]

/-- A journal read that waits ends with BUSY (R119, R174). -/
theorem State.powerFailed_link_of_waiting (h : s.port.requests.link ≠ none) :
    s.powerFailed.link = (State.endLinkRead .busy [] s).link ∧
      s.powerFailed.freeCount = (State.endLinkRead .busy [] s).freeCount := by
  rw [State.powerFailed, State.powerFailLink_of_waiting (by simp [State.powerFailScan_eq, h])]
  by_cases hread : s.link.read = .outstanding true
  · rw [State.endLinkRead_of_answering _ _ hread,
      State.endLinkRead_of_answering _ _ (by simp [State.powerFailScan_eq, hread])]
    simp [State.powerFailScan_eq]
  · rw [State.endLinkRead_of_unheard _ _ hread,
      State.endLinkRead_of_unheard _ _ (by simp [State.powerFailScan_eq, hread])]
    simp [State.powerFailScan_eq]

/-- BUSY and the check byte that makes the sum 5Ah (R167, R179). -/
theorem responsePart_busy : responsePart .busy [] = [0x03, 0x57] := by decide

/-- In DRAINING under PFAIL the condition becomes SAFE once no memory work is pending (R121). -/
theorem exec_safeEntry (hrun : s.running = true) (hdraining : s.power = .draining)
    (h : s.lines.pfail = true ∨ s.workPending = true) :
    exec .safeEntry s =
      .next (if s.workPending then s else { s with power := .safe }) := by
  have hfinish : State.finish s = s := by simp [State.finish, hdraining]
  cases hwork : s.workPending
  · have hpfail : s.lines.pfail = true := by simpa [hwork] using h
    have hfinish' : State.finish { s with power := .safe } = { s with power := .safe } := by
      have hwork' : State.workPending { s with power := .safe } = false := hwork
      simp [State.finish, hwork']
    simp [exec, execSafeEntry, State.within_of_running hrun, hpfail, hdraining, hwork, hfinish']
  · simp [exec, execSafeEntry, State.within_of_running hrun, hwork, hfinish]

theorem exec_pfailDeassertion (h : s.closesTo s0) (hhigh : s0.lines.pfail = true) :
    exec .pfailDeassertion s =
      .next { s0 with lines.pfail := false, power := .normal } := by
  have hhigh' : s.lines.pfail = true := h.lines_eq ▸ hhigh
  obtain ⟨hrun, rfl⟩ := h
  simp only [exec, execPfailDeassertion, hhigh', hrun, if_true]

end

/-- Settles O33. -/
theorem pfailTaken : Obligations.PfailTaken := by
  refine ⟨fun s s0 h hlow => ?_, fun s s0 h hhigh => exec_pfailDeassertion h hhigh,
    fun s hrun hpfail hdraining hwork => ?_, fun s hrun hdraining hwork => ?_⟩
  · obtain ⟨hlines, hgroup, hqueue, hanchor, hmem, hmask, hpending⟩ := s0.powerFailed_frame
    obtain ⟨hhost, hjournal, hevents⟩ := s0.powerFailed_refusal
    have hport := s0.powerFailed_port
    refine ⟨_, exec_pfailAssertion h hlow, hlines, rfl, hgroup, hqueue, hanchor, hmem, hmask,
      hpending, ?_, ?_, ?_, ?_, ?_, ?_, ?_, ?_, s0.powerFailed_scanner, fun a d ha hp => ?_,
      fun a p ha hp => ?_, fun hwaiting hheld => ?_, State.powerFailed_link_of_none,
      fun hlink => ?_⟩
    iterate 8 · simp only [hport]
    · rw [State.powerFailAccess_of_held (s := { s0 with lines.pfail := true }) ha hp]
        at hhost hjournal hevents
      exact ⟨hhost, hjournal, congrArg EventUnit.pendingSet hevents⟩
    · rw [State.powerFailAccess_of_waiting (s := { s0 with lines.pfail := true }) ha hp]
        at hhost hjournal hevents
      exact ⟨hhost, hjournal, congrArg EventUnit.pendingSet hevents⟩
    · rw [State.powerFailAccess_of_other (s := { s0 with lines.pfail := true }) hwaiting hheld]
        at hhost hjournal hevents
      exact ⟨hhost, hjournal, hevents⟩
    · obtain ⟨hlinked, hcount⟩ := State.powerFailed_link_of_waiting hlink
      simp only [hlinked, hcount]
      by_cases hread : s0.link.read = .outstanding true
      · rw [State.endLinkRead_of_answering _ _ hread]
        exact ⟨rfl, fun _ => ⟨rfl, responsePart_busy, rfl, rfl⟩, fun hno => absurd hread hno,
          rfl, rfl, fun hno => if_neg hno, fun hcode hstatus => if_pos ⟨hcode, hstatus⟩⟩
      · rw [State.endLinkRead_of_unheard _ _ hread]
        exact ⟨rfl, fun hyes => absurd hyes hread, fun _ => ⟨rfl, rfl, rfl, rfl⟩, rfl, rfl,
          fun hno => if_neg hno, fun hcode hstatus => if_pos ⟨hcode, hstatus⟩⟩
  · rw [exec_safeEntry hrun hdraining (.inl hpfail), hwork]
    rfl
  · rw [exec_safeEntry hrun hdraining (.inr hwork), hwork]
    rfl

end Sys2Proof.Machine

/-! # Proofs: the host bus port (O44, O46, O47) -/

namespace Sys2Proof.Machine

section
variable {a : Access} {s s0 : State}

/-! ## Classification (R130, R134 to R136) -/

theorem State.queueNames_iff (s : State) (block : Nat) :
    s.queueNames block = true ↔ ∃ e ∈ s.queue, e.block = block := by
  simp [State.queueNames]

theorem State.queueNames_eq_false_iff (s : State) (block : Nat) :
    s.queueNames block = false ↔ ∀ e ∈ s.queue, e.block ≠ block := by
  simp [State.queueNames]

theorem State.classify_of_refuse {r : RefusalReason} (hv : State.verdict a s = .refuse r) :
    State.classify a s = State.refuseAccess r a s := by
  simp only [State.classify, hv]

theorem State.classify_of_hold (hv : State.verdict a s = .hold) :
    State.classify a s = State.setPhase a (.held false) s := by
  simp only [State.classify, hv]

theorem State.classify_of_serve (hv : State.verdict a s = .serve) :
    State.classify a s =
      if s.queueNames (Access.block a) then State.setPhase a .readQueued s
      else State.requestHostRead a s := by
  simp only [State.classify, hv]

theorem State.classify_of_postPlain (hv : State.verdict a s = .postPlain) :
    State.classify a s =
      if Access.allNone a then State.setPhase a .silent s
      else State.post a { tag := .plain, claimed := false } s := by
  simp only [State.classify, hv]

theorem State.post_of_place (p : Post) (h : s.queue.length < 8) :
    State.post a p s = State.setPhase a (.forming p) s := by
  simp [State.post, h]

theorem State.post_of_full (p : Post) (h : 8 ≤ s.queue.length) :
    State.post a p s = State.setPhase a (.waiting p) s := by
  simp [State.post, Nat.not_lt.mpr h]

/-- Settles O44. -/
theorem classifiedAccess : Obligations.ClassifiedAccess := by
  refine fun a s => ⟨fun r hv => State.classify_of_refuse hv, fun hv => State.classify_of_hold hv,
    fun hv => ?_, fun hv => ?_⟩
  · rw [State.classify_of_serve hv]
    refine ⟨fun hnamed => ?_, fun hfree => ?_⟩
    · rw [if_pos ((s.queueNames_iff _).mpr hnamed)]
      rfl
    · rw [(s.queueNames_eq_false_iff _).mpr hfree]
      rfl
  · rw [State.classify_of_postPlain hv]
    refine ⟨fun ⟨hw, hnone⟩ => ?_, fun ⟨hw, hlanes⟩ => ?_⟩
    · rw [if_pos ((Access.allNone_iff hw).mpr hnone)]
      rfl
    · have hsome : ¬ Access.allNone a = true := by
        simpa [Access.allNone_iff hw] using hlanes
      rw [if_neg hsome]
      exact ⟨State.post_of_place _, State.post_of_full _⟩

/-! ## The commands of the host bus (R53, R59, R127, R135, R137) -/

theorem AddressPhase.laneSets_of_read {p : AddressPhase} (h : p.write = false) :
    AddressPhase.laneSets p = List.replicate p.count .both := by
  simp [AddressPhase.laneSets, h]

theorem AddressPhase.laneSets_of_write {p : AddressPhase} (h : p.write = true)
    (hbyte : p.singleByte = false) : AddressPhase.laneSets p = p.lanes := by
  simp [AddressPhase.laneSets, h, hbyte]

/-- The lane of a single byte follows its address: the even byte is the low lane (R127). -/
theorem AddressPhase.laneSets_of_singleByte {p : AddressPhase} (h : p.write = true)
    (hbyte : p.singleByte = true) :
    AddressPhase.laneSets p = [if p.addr.toNat % 2 = 1 then LaneSet.high else LaneSet.low] := by
  have hbit : p.addr.getLsbD 0 = decide (p.addr.toNat % 2 = 1) := Nat.testBit_zero _
  simp only [AddressPhase.laneSets, h, hbyte, hbit, if_true, decide_eq_true_eq]

theorem exec_hostAddressPhase (p : AddressPhase) (h : s.closesTo s0) :
    exec (.hostAddressPhase p) s = .next (State.finish
      (if s0.host.access.isNone && AddressPhase.wf p then
        State.classify (AddressPhase.access p) { s0 with host.answer := none }
      else s0)) := by
  simp only [exec, execHostAddressPhase, State.outside_of_closesTo h]

theorem exec_heldAccessRelease (hrun : s.running = true) (ha : s.host.access = some a) :
    exec .heldAccessRelease s =
      .next (State.finish (if a.phase = .held true then State.classify a s else s)) := by
  simp only [exec, execHeldAccessRelease, State.within_of_running hrun, ha]

theorem exec_waitingWriteTakesPlace {p : Post} (hrun : s.running = true)
    (ha : s.host.access = some a) (hp : a.phase = .waiting p) :
    exec .waitingWriteTakesPlace s = .next (State.finish
      (if s.queue.length < 8 then State.setPhase a (.forming p) s else s)) := by
  simp only [exec, execWaitingWriteTakesPlace, State.within_of_running hrun, ha, hp]

theorem exec_queuedReadProceeds (hrun : s.running = true) (ha : s.host.access = some a)
    (hp : a.phase = .readQueued) :
    exec .queuedReadProceeds s = .next (State.finish
      (if s.queueNames (Access.block a) = false then State.requestHostRead a s else s)) := by
  simp only [exec, execQueuedReadProceeds, State.within_of_running hrun, ha, hp, true_and]

theorem exec_hostReadTransferComplete {t : Transfer} (h : s.completes .hostRead t s0)
    (ha : s0.host.access = some a) (hp : a.phase = .readRequested) :
    exec .hostReadTransferComplete s = .next (State.finish
      (State.setPhase a (.readDone (Transfer.wordsRead t s0.mem)) (State.completed t s0))) := by
  refine State.completion_eq h ?_
  simp only [State.completed_host, ha, hp, if_true]

/-- Settles O46. -/
theorem hostBusCommands : Obligations.HostBusCommands := by
  refine ⟨⟨fun p s s0 h hwf hfree => ⟨AddressPhase.access p, ?_, rfl, rfl, rfl, rfl,
      AddressPhase.laneSets_of_read, AddressPhase.laneSets_of_write,
      AddressPhase.laneSets_of_singleByte⟩, fun p s s0 h hbusy => ?_,
      fun a s hrun ha => ⟨fun hp => ?_, fun hp => ?_⟩⟩,
    fun a post s hrun ha hp hplace => ?_, fun a s hrun ha hp hfree => ?_,
    fun t a s s0 h ha hp => exec_hostReadTransferComplete h ha hp⟩
  · rw [exec_hostAddressPhase p h, hfree, hwf]
    rfl
  · have hcarried : s0.host.access.isNone = false := by
      simpa [Option.isSome_iff_ne_none] using hbusy
    rw [exec_hostAddressPhase p h, hcarried]
    rfl
  · rw [exec_heldAccessRelease hrun ha, if_pos hp]
  · rw [exec_heldAccessRelease hrun ha, if_neg hp]
  · rw [exec_waitingWriteTakesPlace hrun ha hp, if_pos hplace]
    rfl
  · rw [exec_queuedReadProceeds hrun ha hp, if_pos ((s.queueNames_eq_false_iff _).mpr hfree)]
    rfl

/-! ## Data phases (R128, R50 to R52, R55, R135) -/

/-- A data phase is answered by the phase of the access carried. -/
theorem exec_hostDataPhase (w : Word) (h : s.closesTo s0) {s' : State}
    (htaken : State.takeDataPhase w s0 = s') :
    exec (.hostDataPhase w) s = .next (State.finish s') :=
  htaken ▸ State.outside_of_closesTo h _

theorem State.takeDataPhase_of_refused {r : RefusalReason} (w : Word)
    (ha : s.host.access = some a) (hp : a.phase = .refused r) :
    State.takeDataPhase w s = State.answerPhase a .refuse a.received s := by
  simp only [State.takeDataPhase, ha, hp]

/-- Data phases acknowledged without effect (R51, R55). -/
theorem State.takeDataPhase_of_ack (w : Word) (ha : s.host.access = some a)
    (hp : a.phase = .silent ∨ a.phase = .discarding) :
    State.takeDataPhase w s = State.answerPhase a (.ack none) a.received s := by
  rcases hp with hp | hp
  · simp only [State.takeDataPhase, ha, hp]
  · simp only [State.takeDataPhase, ha, hp]

theorem State.takeDataPhase_of_readDone {words : List Word} (w : Word)
    (ha : s.host.access = some a) (hp : a.phase = .readDone words) :
    State.takeDataPhase w s =
      State.answerPhase a (.ack (some (words.getD a.answered 0))) a.received s := by
  simp only [State.takeDataPhase, ha, hp]

theorem State.takeDataPhase_of_forming {p : Post} (w : Word) (ha : s.host.access = some a)
    (hp : a.phase = .forming p) : State.takeDataPhase w s = State.formingPhase a p w s := by
  simp only [State.takeDataPhase, ha, hp]

theorem State.takeDataPhase_of_readRequested (w : Word) (ha : s.host.access = some a)
    (hp : a.phase = .readRequested) : State.takeDataPhase w s = State.earlyPhase a s := by
  simp only [State.takeDataPhase, ha, hp]

theorem State.takeDataPhase_of_unanswered (w : Word) (ha : s.host.access = some a)
    (hp : a.phase.isWaiting = true ∨ a.phase = .readQueued ∨ ∃ d, a.phase = .held d) :
    State.takeDataPhase w s = { s with host.answer := none } := by
  rcases hp with hp | hp | ⟨d, hp⟩
  · cases hphase : a.phase with
    | waiting p => simp only [State.takeDataPhase, ha, hphase]
    | _ => rw [hphase] at hp; cases hp
  all_goals simp only [State.takeDataPhase, ha, hp]

/-- A forming access keeps its words, and after the last one its entry stands at the tail. -/
theorem State.formingPhase_eq (a : Access) (p : Post) (w : Word) (s : State) :
    State.formingPhase a p w s =
      { State.answerPhase a (.ack none) (a.received ++ [w]) s with
        queue :=
          if a.answered + 1 < Access.count a then s.queue
          else s.queue ++ [Access.entry a (a.received ++ [w]) p.tag] } := by
  by_cases hmore : a.answered + 1 < Access.count a
  · simp only [State.formingPhase, if_pos hmore]
    rfl
  · simp only [State.formingPhase, if_neg hmore]

/-- A word of a read in flight, the last one excepted, may have come back (log entry 29). -/
theorem State.earlyPhase_of_flight {t : Transfer} (ht : s.port.inFlight = some t)
    (hp : t.purpose = .hostRead) (hmore : a.answered + 1 < Access.count a) :
    State.earlyPhase a s =
      if Config.freeWordBack s.freeCount then
        { s with
          host :=
            { access := some { a with answered := a.answered + 1 }
              answer := some (.ack (some ((Transfer.wordsRead t s.mem).getD a.answered 0))) }
          freeCount := s.freeCount + 1 }
      else { s with host.answer := none, freeCount := s.freeCount + 1 } := by
  simp only [State.earlyPhase, State.answerPhase, ht, hp, hmore, and_self, if_true]

theorem State.earlyPhase_of_unanswered
    (h : (∀ t, s.port.inFlight = some t → t.purpose ≠ .hostRead) ∨
      Access.count a ≤ a.answered + 1) :
    State.earlyPhase a s = { s with host.answer := none } := by
  unfold State.earlyPhase
  split
  · rename_i t ht
    refine if_neg fun ⟨hp, hmore⟩ => ?_
    rcases h with h | h
    · exact h t ht hp
    · omega
  · rfl

end

/-- Settles O47. -/
theorem dataPhases : Obligations.DataPhases := by
  intro w a s s0 h ha
  refine ⟨fun r hp => ?_, fun hp => ?_, fun words hp => ?_, fun post hp => ?_,
    fun hp => ⟨fun t ht hpurpose hmore => ?_, fun hun => ?_⟩, fun hp => ?_⟩
  · exact exec_hostDataPhase w h (State.takeDataPhase_of_refused w ha hp)
  · exact exec_hostDataPhase w h (State.takeDataPhase_of_ack w ha hp)
  · exact exec_hostDataPhase w h (State.takeDataPhase_of_readDone w ha hp)
  · exact exec_hostDataPhase w h
      ((State.takeDataPhase_of_forming w ha hp).trans (State.formingPhase_eq a post w s0))
  · exact exec_hostDataPhase w h ((State.takeDataPhase_of_readRequested w ha hp).trans
      (State.earlyPhase_of_flight ht hpurpose hmore))
  · exact exec_hostDataPhase w h ((State.takeDataPhase_of_readRequested w ha hp).trans
      (State.earlyPhase_of_unanswered hun))
  · exact exec_hostDataPhase w h (State.takeDataPhase_of_unanswered w ha hp)

end Sys2Proof.Machine

/-! # Proofs: requests and grants (O21) -/

namespace Sys2Proof.Machine

section
variable {s : State}

/-! ## When the port is closed (R70, R140) -/

theorem State.portClosed_iff (s : State) :
    s.portClosed = true ↔
      s.port.inFlight ≠ none ∨ ∃ g cause, s.journal.backward = .rollbackDue g cause := by
  simp only [State.portClosed, Bool.or_eq_true, Option.isSome_iff_ne_none, s.rollbackDue_iff]

theorem State.portClosed_eq_false (hport : s.port.inFlight = none)
    (hdue : ∀ g cause, s.journal.backward ≠ .rollbackDue g cause) : s.portClosed = false := by
  rw [← Bool.not_eq_true, State.portClosed_iff]
  rintro (hflight | ⟨g, cause, hback⟩)
  · exact hflight hport
  · exact hdue g cause hback

/-! ## Where a request goes (R141, R142) -/

theorem State.request_of_free (t : Transfer) (hport : s.port.inFlight = none)
    (hnone : s.port.requests = Requests.empty)
    (hdue : ∀ g cause, s.journal.backward ≠ .rollbackDue g cause) :
    State.request t s = { s with port.inFlight := some t, port.discard := false } := by
  have hsome := (Requests.some_eq_false_iff _).mpr hnone
  rw [State.request, State.portClosed_eq_false hport hdue, hsome]
  rfl

theorem State.request_of_blocked (t : Transfer)
    (h : s.port.inFlight ≠ none ∨ s.port.requests ≠ Requests.empty ∨
      ∃ g cause, s.journal.backward = .rollbackDue g cause) :
    State.request t s =
      { s with
        port.requests :=
          Requests.put s.port.requests (Purpose.requester t.purpose) (some t) } := by
  have hblocked : s.portClosed = true ∨ s.port.requests.some = true := by
    rw [State.portClosed_iff, Requests.some_iff, or_right_comm, or_assoc]
    exact h
  rw [State.request, if_neg]
  rcases hblocked with hclosed | hsome
  · simp [hclosed]
  · simp [hsome]

/-! ## The arbiter's choice (R142) -/

/-- Every requester has its place in the grant order. -/
theorem mem_grantOrder (urgent : Bool) (q : Requester) : q ∈ grantOrder urgent := by
  cases urgent <;> cases q <;> decide

/-- A search stops at an element that passes when none of those before it does. -/
theorem find?_eq_some_of_takeWhile_ne {α : Type} [DecidableEq α] {test : α → Bool} {x : α}
    {l : List α} (hmem : x ∈ l) (hx : test x = true)
    (hbefore : ∀ y ∈ l.takeWhile (· != x), test y = false) : l.find? test = some x := by
  induction l with
  | nil => cases hmem
  | cons y rest ih =>
    by_cases hy : y = x
    · rw [hy, List.find?_cons_of_pos hx]
    · have hkept : (y :: rest).takeWhile (· != x) = y :: rest.takeWhile (· != x) :=
        List.takeWhile_cons_of_pos (by simpa using hy)
      rw [hkept] at hbefore
      have hfails : ¬ test y = true := by simp [hbefore y (.head _)]
      rw [List.find?_cons_of_neg hfails]
      exact ih (List.mem_of_ne_of_mem (Ne.symm hy) hmem) fun z hz => hbefore z (.tail _ hz)

/-- The first waiting requester of the grant order is chosen. -/
theorem State.nextGrant_of_first {q : Requester} {t : Transfer}
    (hq : Requests.get s.port.requests q = some t)
    (hbefore : ∀ r ∈ (grantOrder s.urgent).takeWhile (· != q),
      Requests.get s.port.requests r = none) : s.nextGrant = some q :=
  find?_eq_some_of_takeWhile_ne (mem_grantOrder _ q) (Option.isSome_of_eq_some hq)
    fun r hr => Option.isSome_eq_false_iff.mpr (Option.isNone_iff_eq_none.mpr (hbefore r hr))

/-- On a free port with no rollback due the requester chosen is granted. -/
theorem State.grant_of_nextGrant {q : Requester} (hport : s.port.inFlight = none)
    (hdue : ∀ g cause, s.journal.backward ≠ .rollbackDue g cause)
    (hnext : s.nextGrant = some q) :
    State.grant s =
      { s with
        port.inFlight := Requests.get s.port.requests q
        port.discard := false
        port.requests := Requests.put s.port.requests q none } := by
  rw [State.grant, State.portClosed_eq_false hport hdue, hnext]
  rfl

/-! ## Urgency (R60, R143) -/

theorem State.readWaits_iff (s : State) :
    s.readWaits = true ↔ ∃ a, s.host.access = some a ∧ a.phase = .readQueued ∧
      ∃ e ∈ s.queue, e.block = Access.block a := by
  cases h : s.host.access <;> simp [State.readWaits, h, State.queueNames_iff]

theorem State.urgent_iff (s : State) :
    s.urgent = true ↔
      s.queue.length = 8 ∨ s.readWaits = true ∨ s.group.state = .committing ∨
      (s.anchor.job ≠ none ∧ s.quiet = false) ∨ s.power = .draining := by
  simp [State.urgent, Config.queuePlaces, Option.isSome_iff_ne_none, or_assoc]

end

/-- Settles O21. -/
theorem requestsAndGrants : Obligations.RequestsAndGrants := by
  refine ⟨fun t s => ⟨State.request_of_free t, State.request_of_blocked t⟩,
    fun s => State.grant_of_blocked, fun s q t hport hdue hq hbefore => ?_, fun s => ?_⟩
  · rw [State.grant_of_nextGrant hport hdue (State.nextGrant_of_first hq hbefore), hq]
  · rw [s.urgent_iff, s.readWaits_iff]

end Sys2Proof.Machine

/-! # Proofs: the region lookup (O27) -/

namespace Sys2Proof.Machine

theorem inAnchorArea_iff (block : Nat) : inAnchorArea block = true ↔ block ≤ 10 := by
  simp [inAnchorArea]

theorem inJournalArea_iff (a : List Word) (block : Nat) :
    inJournalArea a block = true ↔
      anchorBase a ≤ block / 128 ∧ block / 128 < anchorBase a + anchorLength a := by
  rw [inJournalArea, Bool.and_eq_true, decide_eq_true_iff, decide_eq_true_iff, granuleOf]

theorem regionCovers_iff (a : List Word) (granule i : Nat) :
    regionCovers a granule i = true ↔
      regionAttr a i ≠ .none ∧ regionFirst a i ≤ granule ∧ granule ≤ regionLast a i := by
  simp [regionCovers, and_assoc]

theorem regionCovers_eq_false_iff (a : List Word) (granule i : Nat) :
    regionCovers a granule i = false ↔
      regionAttr a i = .none ∨ granule < regionFirst a i ∨ regionLast a i < granule := by
  rw [← Bool.not_eq_true, regionCovers_iff, not_and_or, not_and_or, not_not, Nat.not_le, Nat.not_le]

section
variable {a : List Word} {block : Nat}

/-! ## The steps of R84 -/

theorem lookupLive_of_beyond_top (h : anchorTop a < block / 128) :
    lookupLive a block = .unmapped :=
  if_pos h

theorem lookupLive_of_anchorArea (htop : block / 128 ≤ anchorTop a) (h : block ≤ 10) :
    lookupLive a block = .anchorArea := by
  rw [lookupLive, granuleOf, if_neg (Nat.not_lt.mpr htop), if_pos ((inAnchorArea_iff block).mpr h)]

theorem lookupLive_of_journalArea (htop : block / 128 ≤ anchorTop a) (h : 10 < block)
    (harea : anchorBase a ≤ block / 128 ∧ block / 128 < anchorBase a + anchorLength a) :
    lookupLive a block = .journalArea := by
  rw [lookupLive, granuleOf, if_neg (Nat.not_lt.mpr htop),
    if_neg (mt (inAnchorArea_iff block).mp (Nat.not_le.mpr h)),
    if_pos ((inJournalArea_iff a block).mpr harea)]

/-- The lowest-numbered entry that covers the block's granule (R84 step 4). -/
theorem lookupLive_of_region {i : Nat} (htop : block / 128 ≤ anchorTop a) (h : 10 < block)
    (hout : ¬ (anchorBase a ≤ block / 128 ∧ block / 128 < anchorBase a + anchorLength a))
    (hi : i < 8) (hcovers : regionCovers a (block / 128) i = true)
    (hbefore : ∀ j, j < i → regionCovers a (block / 128) j = false) :
    lookupLive a block = .region (regionAttr a i) (some i) := by
  have hfind : (List.range 8).find? (regionCovers a (block / 128)) = some i :=
    List.find?_range_eq_some.mpr
      ⟨hcovers, List.mem_range.mpr hi, fun j hj => by rw [hbefore j hj]; rfl⟩
  rw [lookupLive, granuleOf, if_neg (Nat.not_lt.mpr htop),
    if_neg (mt (inAnchorArea_iff block).mp (Nat.not_le.mpr h)),
    if_neg (mt (inJournalArea_iff a block).mp hout), hfind]

/-- With no entry that covers the granule the default decides (R84 step 5). -/
theorem lookupLive_of_default (htop : block / 128 ≤ anchorTop a) (h : 10 < block)
    (hout : ¬ (anchorBase a ≤ block / 128 ∧ block / 128 < anchorBase a + anchorLength a))
    (hnone : ∀ j, j < 8 → regionCovers a (block / 128) j = false) :
    lookupLive a block = if anchorDefault a = 1 then .region .pass none else .unmapped := by
  have hfind : (List.range 8).find? (regionCovers a (block / 128)) = none :=
    List.find?_range_eq_none.mpr fun j hj => by rw [hnone j hj]; rfl
  rw [lookupLive, granuleOf, if_neg (Nat.not_lt.mpr htop),
    if_neg (mt (inAnchorArea_iff block).mp (Nat.not_le.mpr h)),
    if_neg (mt (inJournalArea_iff a block).mp hout), hfind]
  simp only [beq_iff_eq]

end

/-- Settles O27. -/
theorem regionLookup : Obligations.RegionLookup := by
  refine ⟨fun s block => ⟨fun hlive => ?_, fun hnone h => ?_, fun hnone h => ?_⟩,
    fun a i => ?_, fun a block => ⟨lookupLive_of_beyond_top, lookupLive_of_anchorArea,
      fun htop h hfirst hlast => lookupLive_of_journalArea htop h ⟨hfirst, hlast⟩,
      fun htop h hout => ⟨fun i hi hattr hfirst hlast hbefore => ?_, fun hnone => ?_⟩⟩⟩
  · simp [State.lookup, hlive]
  · simp [State.lookup, hnone, lookupBuiltIn, inAnchorArea, h]
  · simp [State.lookup, hnone, lookupBuiltIn, inAnchorArea, h]
  · refine ⟨?_, ?_, ?_, ?_, ?_⟩ <;> intro hcode <;> simp only [regionAttr, hcode, attrOfCode]
  · exact lookupLive_of_region htop h hout hi
      ((regionCovers_iff a _ i).mpr ⟨hattr, hfirst, hlast⟩)
      fun j hj => (regionCovers_eq_false_iff a _ j).mpr (hbefore j hj)
  · exact lookupLive_of_default htop h hout
      fun j hj => (regionCovers_eq_false_iff a _ j).mpr (hnone j hj)

end Sys2Proof.Machine

/-! # Proofs: the anchor test and the validation of STORE_ANCHOR (O29) -/

namespace Sys2Proof.Machine

/-! ## The tests of the regions and of the journal area (R81) -/

theorem allRegions_iff (ok : Nat → Bool) :
    allRegions ok = true ↔ ∀ i, i < 8 → ok i = true := by
  simp [allRegions]

theorem allRegions_attrOk_iff (a : List Word) :
    allRegions (regionAttrOk a) = true ↔
      ∀ i, i < 8 → (wordAtIndex a (12 + 4 * i)).toNat % 32768 ≤ 4 := by
  simp only [allRegions_iff, regionAttrOk, decide_eq_true_iff]

theorem allRegions_rangeOk_iff (a : List Word) :
    allRegions (regionRangeOk a) = true ↔ ∀ i, i < 8 → regionAttr a i ≠ .none →
      regionFirst a i ≤ regionLast a i ∧ regionLast a i ≤ anchorTop a := by
  simp only [allRegions_iff, regionRangeOk, Bool.or_eq_true, Bool.and_eq_true, beq_iff_eq,
    decide_eq_true_iff, or_iff_not_imp_left, ne_eq]

theorem allRegions_scanFlagOk_iff (a : List Word) :
    allRegions (scanFlagOk a) = true ↔ ∀ i, i < 8 → regionAttr a i ≠ .frozen →
      (wordAtIndex a (12 + 4 * i)).getLsbD 15 = false := by
  simp only [allRegions_iff, scanFlagOk, regionScanFlag, Bool.or_eq_true, beq_iff_eq,
    Bool.not_eq_true', or_iff_not_imp_left, ne_eq]

theorem journalPlaceOk_iff (a : List Word) :
    journalPlaceOk a = true ↔
      1 ≤ anchorBase a ∧ anchorBase a + anchorLength a - 1 ≤ anchorTop a := by
  rw [journalPlaceOk, Bool.and_eq_true, decide_eq_true_iff, decide_eq_true_iff]

/-- A store in IDLE or HALTED may not move the journal base into the old area above its base
(R90). -/
theorem storePlace_iff (w live : List Word) (old : Bool) :
    (journalPlaceOk w && !(old && (anchorBase w != anchorBase live &&
        anchorBase live < anchorBase w &&
        anchorBase w ≤ anchorBase live + anchorLength live - 1))) = true ↔
      (1 ≤ anchorBase w ∧ anchorBase w + anchorLength w - 1 ≤ anchorTop w) ∧
        ¬ (old = true ∧ anchorBase live < anchorBase w ∧
          anchorBase w ≤ anchorBase live + anchorLength live - 1) := by
  have hmoved : anchorBase live < anchorBase w → anchorBase w ≠ anchorBase live := Nat.ne_of_gt
  rw [Bool.and_eq_true, journalPlaceOk_iff, Bool.not_eq_true', ← Bool.not_eq_true]
  simp only [Bool.and_eq_true, bne_iff_ne, decide_eq_true_iff]
  tauto

/-! ## The tests in their order (R81, R88, R90) -/

/-- Tests 3 to 11 of R81: each one that passes hands over to the next. -/
theorem failingTest_eq (a : List Word) (placeOk : Bool) :
    failingTest a placeOk =
      if 1 ≤ anchorTop a ∧ anchorTop a ≤ 16383 then
      if 1 ≤ anchorLength a ∧ anchorLength a ≤ 64 then
      if placeOk = true then
      if anchorDefault a = 0 ∨ anchorDefault a = 1 then
      if (anchorMask a).toNat < 2048 then
      if anchorDivisor a ≠ 0 then
      if allRegions (regionAttrOk a) = true then
      if allRegions (regionRangeOk a) = true then
      if allRegions (scanFlagOk a) = true then none
      else some .scanFlag
      else some .regionRange
      else some .regionAttr
      else some .divisor
      else some .mask
      else some .defaultAttr
      else some .journalPlace
      else some .journalSize
      else some .top := by
  simp only [failingTest, Bool.not_eq_true', ← Bool.not_eq_true, ite_not, Bool.and_eq_true,
    Bool.or_eq_true, decide_eq_true_iff, beq_iff_eq, ne_eq]

/-- Tests 1 and 2 come before them. -/
theorem anchorFault_eq (a : List Word) :
    anchorFault a =
      if wordAtIndex a 0 = 0x6A4B#16 then
      if wordSum a = 0x3E91#16 then
      if failingTest a (journalPlaceOk a) = none then none
      else some .range
      else some .check
      else some .mark := by
  simp only [anchorFault, checks, bne_iff_ne, Bool.not_eq_true', ← Bool.not_eq_true, ite_not,
    beq_iff_eq, ne_eq, Option.isSome_iff_ne_none]

theorem ite_else_some_eq_none {α : Type} {p : Prop} [Decidable p] {x : Option α} {r : α} :
    (if p then x else some r) = none ↔ p ∧ x = none := by
  split <;> simp [*]

theorem anchorFault_eq_none_iff (a : List Word) :
    anchorFault a = none ↔ wordAtIndex a 0 = 0x6A4B#16 ∧ wordSum a = 0x3E91#16 ∧
      failingTest a (journalPlaceOk a) = none := by
  simp only [anchorFault_eq, ite_else_some_eq_none, and_true]

theorem anchorFault_eq_mark_iff (a : List Word) :
    anchorFault a = some .mark ↔ wordAtIndex a 0 ≠ 0x6A4B#16 := by
  rw [anchorFault_eq]
  (repeat' split) <;> simp [*]

theorem anchorFault_eq_check_iff (a : List Word) :
    anchorFault a = some .check ↔ wordAtIndex a 0 = 0x6A4B#16 ∧ wordSum a ≠ 0x3E91#16 := by
  rw [anchorFault_eq]
  (repeat' split) <;> simp [*]

/-- Settles O29: a store's tests are those of R81 with its own test 5. -/
theorem anchorTests : Obligations.AnchorTests := by
  refine ⟨fun w => ⟨?_, anchorFault_eq_mark_iff w, anchorFault_eq_check_iff w⟩,
    fun w live old => ?_⟩
  · simp only [anchorFault_eq_none_iff, failingTest_eq, ite_else_some_eq_none, journalPlaceOk_iff,
      allRegions_attrOk_iff, allRegions_rangeOk_iff, allRegions_scanFlagOk_iff, and_true]
  · dsimp only
    rw [← storePlace_iff w live old, ← allRegions_attrOk_iff, ← allRegions_rangeOk_iff,
      ← allRegions_scanFlagOk_iff, storeFault, failingTest_eq]
    refine ⟨?_, ?_, ?_, ?_, ?_, ?_, ?_, ?_, ?_, ?_⟩
    · intro h3
      rw [if_neg h3]
    · rintro ⟨h3, h4⟩
      rw [if_pos h3, if_neg h4]
    · rintro ⟨h3, h4, h5⟩
      rw [if_pos h3, if_pos h4, if_neg h5]
    · rintro ⟨h3, h4, h5, h6⟩
      rw [if_pos h3, if_pos h4, if_pos h5, if_neg h6]
    · rintro ⟨h3, h4, h5, h6, h7⟩
      rw [if_pos h3, if_pos h4, if_pos h5, if_pos h6, if_neg h7]
    · rintro ⟨h3, h4, h5, h6, h7, h8⟩
      rw [if_pos h3, if_pos h4, if_pos h5, if_pos h6, if_pos h7, if_neg h8]
    · rintro ⟨h3, h4, h5, h6, h7, h8, h9⟩
      rw [if_pos h3, if_pos h4, if_pos h5, if_pos h6, if_pos h7, if_pos h8, if_neg h9]
    · rintro ⟨h3, h4, h5, h6, h7, h8, h9, h10⟩
      rw [if_pos h3, if_pos h4, if_pos h5, if_pos h6, if_pos h7, if_pos h8, if_pos h9, if_neg h10]
    · rintro ⟨h3, h4, h5, h6, h7, h8, h9, h10, h11⟩
      rw [if_pos h3, if_pos h4, if_pos h5, if_pos h6, if_pos h7, if_pos h8, if_pos h9,
        if_pos h10, if_neg h11]
    · rintro ⟨h3, h4, h5, h6, h7, h8, h9, h10, h11⟩
      rw [if_pos h3, if_pos h4, if_pos h5, if_pos h6, if_pos h7, if_pos h8, if_pos h9,
        if_pos h10, if_pos h11]

end Sys2Proof.Machine

/-! # Proofs: the anchor copies and the commands of the anchor unit (O40, O43) -/

namespace Sys2Proof.Machine

section
variable {s s0 : State}

/-- A command part that is taken in an awaiting frame. -/
theorem State.link_of_closesTo (h : s.closesTo s0) (hframe : s0.link.frame = .awaiting)
    (f : State → State) :
    State.outside (State.inFrame f) s = .next (State.finish (f s0)) := by
  rw [State.outside_of_closesTo h, State.inFrame_of_awaiting hframe]

/-! ## Words of a copy (R87, R172) -/

theorem copyRange_iff (o n : Byte) :
    copyRange o n = true ↔
      o.toNat ≤ 41 ∧ 1 ≤ n.toNat ∧ n.toNat ≤ 8 ∧ o.toNat + n.toNat ≤ 42 := by
  simp [copyRange, and_assoc]

theorem copyRange_eq_false_iff (o n : Byte) :
    copyRange o n = false ↔
      41 < o.toNat ∨ n.toNat = 0 ∨ 8 < n.toNat ∨ 42 < o.toNat + n.toNat := by
  rw [← Bool.not_eq_true, copyRange_iff]
  omega

theorem length_of_stageWordsWf {n : Byte} {ws : List Word} (h : stageWordsWf n ws = true)
    (hn : 1 ≤ n.toNat ∧ n.toNat ≤ 8) : ws.length = n.toNat := by
  rw [stageWordsWf, if_pos hn] at h
  exact beq_iff_eq.mp h

/-- The words given stand at the offset, and every other word of the copy stays. -/
theorem replaceWords_getD {copy ws : List Word} {o : Nat} (h : o + ws.length ≤ copy.length)
    (k : Nat) :
    (replaceWords copy o ws).getD k 0 =
      if o ≤ k ∧ k < o + ws.length then ws.getD (k - o) 0 else copy.getD k 0 := by
  have htake : (copy.take o).length = o := by simp; omega
  have hgiven : (copy.take o ++ ws).length = o + ws.length := by simp; omega
  rw [replaceWords]
  rcases Nat.lt_or_ge k o with hk | hk
  · rw [if_neg (by omega), List.getD_append _ _ _ _ (by omega),
      List.getD_append _ _ _ _ (by omega), List.getD_eq_getElem?_getD, List.getElem?_take_of_lt hk,
      ← List.getD_eq_getElem?_getD]
  · rcases Nat.lt_or_ge k (o + ws.length) with hk' | hk'
    · rw [if_pos ⟨hk, hk'⟩, List.getD_append _ _ _ _ (by omega),
        List.getD_append_right _ _ _ _ (by omega), htake]
    · rw [if_neg (by omega), List.getD_append_right _ _ _ _ (by omega), hgiven,
        List.getD_eq_getElem?_getD, List.getElem?_drop, ← List.getD_eq_getElem?_getD]
      congr 1
      omega

/-! ## READ_LIVE, READ_STAGE, STAGE, COPY_LIVE_TO_STAGE (R87, R170, R172) -/

theorem State.takeCopyRead_of_recovering (h : s.group.state = .recovering) (i : Instr)
    (copy : List Word) (o n : Byte) :
    State.takeCopyRead i copy o n s = State.answer i .busy [] s :=
  if_pos h

theorem State.takeCopyRead_of_range (h : s.group.state ≠ .recovering) {o n : Byte}
    (hrange : copyRange o n = true) (i : Instr) (copy : List Word) :
    State.takeCopyRead i copy o n s =
      State.answer i .ok (wordsBytes ((copy.drop o.toNat).take n.toNat)) s := by
  rw [State.takeCopyRead, if_neg h, if_pos hrange]

theorem State.takeCopyRead_of_outside (h : s.group.state ≠ .recovering) {o n : Byte}
    (hrange : copyRange o n = false) (i : Instr) (copy : List Word) :
    State.takeCopyRead i copy o n s = State.answerInvalid i .range s := by
  rw [State.takeCopyRead, if_neg h, if_neg (by simp [hrange])]

theorem exec_readLive (h : s.closesTo s0) (hframe : s0.link.frame = .awaiting) (o n : Byte) :
    exec (.readLive o n) s = .next (State.finish
      (State.takeCopyRead (.readLive o n) s0.anchor.live o n s0)) :=
  State.link_of_closesTo h hframe _

theorem exec_readStage (h : s.closesTo s0) (hframe : s0.link.frame = .awaiting) (o n : Byte) :
    exec (.readStage o n) s = .next (State.finish
      (State.takeCopyRead (.readStage o n) s0.anchor.staging o n s0)) :=
  State.link_of_closesTo h hframe _

theorem exec_stage (h : s.closesTo s0) (hframe : s0.link.frame = .awaiting) (o : Byte) {n : Byte}
    {ws : List Word} (hwf : stageWordsWf n ws = true) :
    exec (.stage o n ws) s = .next (State.finish (State.takeStage o n ws s0)) := by
  refine (State.link_of_closesTo h hframe _).trans ?_
  rw [if_pos hwf]

theorem exec_copyLiveToStage (h : s.closesTo s0) (hframe : s0.link.frame = .awaiting) :
    exec .copyLiveToStage s = .next (State.finish (State.takeCopyLive s0)) :=
  State.link_of_closesTo h hframe _

theorem State.takeStage_of_range (hr : s.group.state ≠ .recovering)
    (hc : s.group.state ≠ .configuring) {o n : Byte} (hrange : copyRange o n = true)
    (ws : List Word) :
    State.takeStage o n ws s = State.answer (.stage o n ws) .ok []
      { s with anchor.staging := replaceWords s.anchor.staging o.toNat ws } := by
  rw [State.takeStage, if_neg (by simp [hr, hc]), if_pos hrange]

theorem State.takeStage_of_outside (hr : s.group.state ≠ .recovering)
    (hc : s.group.state ≠ .configuring) {o n : Byte} (hrange : copyRange o n = false)
    (ws : List Word) :
    State.takeStage o n ws s = State.answerInvalid (.stage o n ws) .range s := by
  rw [State.takeStage, if_neg (by simp [hr, hc]), if_neg (by simp [hrange])]

end

/-- Settles O40. -/
theorem anchorCopyCommands : Obligations.AnchorCopyCommands := by
  refine ⟨fun o n s s0 h hframe => ?_, fun o n ws s s0 h hframe hwf => ?_⟩
  · rw [exec_readLive h hframe, exec_readStage h hframe, ← copyRange_iff, ← copyRange_eq_false_iff]
    refine ⟨fun hr => ?_, fun hr => ⟨fun hrange => ?_, fun hrange => ?_⟩⟩
    · simp only [State.takeCopyRead_of_recovering hr, and_self]
    · simp only [State.takeCopyRead_of_range hr hrange, and_self]
    · simp only [State.takeCopyRead_of_outside hr hrange, and_self]
  · rw [exec_stage h hframe o hwf, exec_copyLiveToStage h hframe, ← copyRange_eq_false_iff]
    refine ⟨fun hbusy => ?_, fun hr hc => ⟨?_, fun hrange => ?_, fun hrange hlength => ?_⟩⟩
    · rw [State.takeStage, if_pos hbusy, State.takeCopyLive, if_pos hbusy]
      exact ⟨rfl, rfl⟩
    · rw [State.takeCopyLive, if_neg (by simp [hr, hc])]
    · rw [State.takeStage_of_outside hr hc hrange]
    · obtain ⟨hfirst, hpos, height, hlast⟩ := hrange
      have hrange := (copyRange_iff o n).mpr ⟨hfirst, hpos, height, hlast⟩
      have hws := length_of_stageWordsWf hwf ⟨hpos, height⟩
      have hfits : o.toNat + ws.length ≤ s0.anchor.staging.length := by omega
      refine ⟨_, by rw [State.takeStage_of_range hr hc hrange],
        (replaceWords_length hfits).trans hlength, fun k _ => ?_⟩
      rw [replaceWords_getD hfits, hws]

section
variable {s s0 : State}

/-! ## STORE_ANCHOR and FORMAT (R89 to R91, R93, R97) -/

theorem State.enterConfiguring_eq_markRelease (job : ConfigJob) (s : State) :
    State.enterConfiguring job s = State.markRelease
      { State.idleScanner s with group.state := .configuring, anchor.job := some job } := rfl

/-- The scanner going idle and the work handed over do not concern each other. -/
theorem State.idleScanner_setHanded (handed : Option GroupWork) (s : State) :
    State.idleScanner { s with journal.handed := handed } =
      { State.idleScanner s with journal.handed := handed } := by
  unfold State.idleScanner State.abandonScan
  split <;> rfl

/-- A store formats unless it is taken in IDLE and keeps the journal area (R93). -/
theorem State.storeFormats_eq (s : State) :
    s.storeFormats = decide (s.group.state ≠ .idle ∨
      anchorBase s.anchor.staging ≠ anchorBase s.anchor.live ∨
      anchorLength s.anchor.staging ≠ anchorLength s.anchor.live) := by
  simp only [State.storeFormats, Bool.decide_or, bne, beq_eq_decide, ne_eq, decide_not,
    Bool.or_assoc]

theorem State.mayStore_iff (s : State) :
    ((s.group.state == .idle || s.group.state == .unconfigured || s.group.state == .halted) &&
      s.power == .normal) = true ↔
      (s.group.state = .idle ∨ s.group.state = .unconfigured ∨ s.group.state = .halted) ∧
        s.power = .normal := by
  simp [or_assoc]

theorem State.mayFormat_iff (s : State) :
    ((s.group.state == .idle || s.group.state == .halted) && s.power == .normal) = true ↔
      (s.group.state = .idle ∨ s.group.state = .halted) ∧ s.power = .normal := by
  simp

theorem State.takeStoreAnchor_of_busy
    (h : ¬ ((s.group.state = .idle ∨ s.group.state = .unconfigured ∨ s.group.state = .halted) ∧
      s.power = .normal)) :
    State.takeStoreAnchor s = State.answer .storeAnchor .busy [] s := by
  rw [State.takeStoreAnchor, if_neg (mt s.mayStore_iff.mp h)]

theorem GroupState.bne_eq_decide (g g' : GroupState) : (g != g') = decide (g ≠ g') := by
  rw [bne, beq_eq_decide, decide_not]

section
variable
  (hstate : s.group.state = .idle ∨ s.group.state = .unconfigured ∨ s.group.state = .halted)
  (hpower : s.power = .normal)
include hstate hpower

theorem State.takeStoreAnchor_of_fault {r : InvalidReason}
    (hfault : storeFault s.anchor.staging s.anchor.live
      (decide (s.group.state ≠ .unconfigured)) = some r) :
    State.takeStoreAnchor s = State.answerInvalid .storeAnchor r s := by
  rw [State.takeStoreAnchor, if_pos (s.mayStore_iff.mpr ⟨hstate, hpower⟩),
    GroupState.bne_eq_decide, hfault]

theorem State.takeStoreAnchor_of_valid
    (hfault : storeFault s.anchor.staging s.anchor.live
      (decide (s.group.state ≠ .unconfigured)) = none) :
    State.takeStoreAnchor s = State.answer .storeAnchor .started []
      (State.enterConfiguring
        { store := true, formats := s.storeFormats,
          fromUnconfigured := decide (s.group.state = .unconfigured),
          stage := .waitingQuiet } s) := by
  rw [State.takeStoreAnchor, if_pos (s.mayStore_iff.mpr ⟨hstate, hpower⟩),
    GroupState.bne_eq_decide, hfault, beq_eq_decide]

end

theorem State.takeFormat_of_busy
    (h : ¬ ((s.group.state = .idle ∨ s.group.state = .halted) ∧ s.power = .normal)) :
    State.takeFormat s = State.answer .format .busy [] s := by
  rw [State.takeFormat, if_neg (mt s.mayFormat_iff.mp h)]

theorem State.takeFormat_of_ready
    (h : (s.group.state = .idle ∨ s.group.state = .halted) ∧ s.power = .normal) :
    State.takeFormat s = State.answer .format .started []
      (State.enterConfiguring
        { store := false, formats := true, fromUnconfigured := false, stage := .waitingQuiet }
        { s with journal.handed := some .format }) := by
  rw [State.takeFormat, if_pos (s.mayFormat_iff.mpr h)]

theorem exec_storeAnchor (h : s.closesTo s0) (hframe : s0.link.frame = .awaiting) :
    exec .storeAnchor s = .next (State.finish (State.takeStoreAnchor s0)) :=
  State.link_of_closesTo h hframe _

theorem exec_format (h : s.closesTo s0) (hframe : s0.link.frame = .awaiting) :
    exec .format s = .next (State.finish (State.takeFormat s0)) :=
  State.link_of_closesTo h hframe _

end

/-- Settles O43. -/
theorem storeAndFormatCommands : Obligations.StoreAndFormatCommands := by
  refine ⟨fun s s0 h hframe => ?_, fun s s0 h hframe => ?_⟩
  · rw [exec_storeAnchor h hframe]
    refine ⟨fun hbusy => ?_, fun hstate hpower => ⟨fun r hfault => ?_, fun hvalid => ?_⟩⟩
    · rw [State.takeStoreAnchor_of_busy (by tauto)]
    · rw [State.takeStoreAnchor_of_fault hstate hpower hfault]
    · rw [State.takeStoreAnchor_of_valid hstate hpower hvalid, s0.storeFormats_eq,
        State.enterConfiguring_eq_markRelease]
  · rw [exec_format h hframe]
    refine ⟨fun hbusy => ?_, fun hstate hpower => ?_⟩
    · rw [State.takeFormat_of_busy (by tauto)]
    · rw [State.takeFormat_of_ready ⟨hstate, hpower⟩, State.enterConfiguring_eq_markRelease,
        State.idleScanner_setHanded]

end Sys2Proof.Machine

/-! # Proofs: the store's memory work and the switch (O56) -/

namespace Sys2Proof.Machine

/-! ## The staging copy completed (R92) -/

theorem wordSum_cons (w : Word) (ws : List Word) : wordSum (w :: ws) = w + wordSum ws := by
  rw [wordSum, List.foldl_cons, zero_add, ← add_zero w, List.foldl_assoc, add_zero, wordSum]

/-- A word put in the place of a zero adds itself to the sum. -/
theorem wordSum_set {ws : List Word} {k : Nat} (hk : k < ws.length) (w : Word) :
    wordSum (ws.set k w) = wordSum (ws.set k 0) + w := by
  induction ws generalizing k with
  | nil => cases hk
  | cons x rest ih =>
    cases k with
    | zero =>
      rw [List.set_cons_zero, List.set_cons_zero, wordSum_cons, wordSum_cons, zero_add, add_comm]
    | succ k =>
      rw [List.set_cons_succ, List.set_cons_succ, wordSum_cons, wordSum_cons,
        ih (Nat.lt_of_succ_lt_succ hk), add_assoc]

/-- The check word makes the completed copy sum to the fixed value (R176). -/
theorem wordSum_completedAnchor {a : List Word} (h : 9 < a.length) :
    wordSum (completedAnchor a) = 0x3E91#16 := by
  rw [completedAnchor, wordSum_set (by rwa [List.length_set]), checkWord, BitVec.add_comm]
  exact BitVec.sub_add_cancel _ _

theorem wordAtIndex_set (ws : List Word) (i k : Nat) (w : Word) :
    wordAtIndex (ws.set i w) k = if i = k ∧ k < ws.length then w else wordAtIndex ws k := by
  simp only [wordAtIndex, List.getD_eq_getElem?_getD, List.getElem?_set]
  split
  · split <;> simp_all
  · simp_all

theorem wordAtIndex_completedAnchor_mark {a : List Word} (h : 0 < a.length) :
    wordAtIndex (completedAnchor a) 0 = 0x6A4B#16 := by
  simp [completedAnchor, wordAtIndex_set, h]

theorem wordAtIndex_completedAnchor_other (a : List Word) {k : Nat} (h0 : k ≠ 0) (h9 : k ≠ 9) :
    wordAtIndex (completedAnchor a) k = wordAtIndex a k := by
  simp [completedAnchor, wordAtIndex_set, h0.symm, h9.symm]

/-! ## The transfers (R91 to R93) -/

theorem State.requestSlotClear_eq (j : ConfigJob) (s : State) :
    State.requestSlotClear j s = State.request
      { purpose := .slotClear, addr := anchorBase s.anchor.staging * 512
        body := .write (List.replicate 8 (.both, 0)) }
      { s with anchor.job := some { j with stage := .clearingSlots } } := by
  rw [State.requestSlotClear, bothLanes, List.map_replicate, journalWord, Nat.add_zero]
  rfl

/-- The anchor write begins with word 0 written as 0000h (R92). -/
theorem State.beginAnchorWrite_eq (j : ConfigJob) (s : State) :
    State.beginAnchorWrite j s = State.request
      { purpose := .anchorWrite, addr := 0
        body := .write (bothLanes
          ((0 : Word) :: ((completedAnchor s.anchor.staging).drop 1).take 7)) }
      { s with
        anchor.staging := completedAnchor s.anchor.staging
        anchor.job := some { j with stage := .writingAnchor 1 } } := rfl

/-- Transfers 2 to 7: eight words at a time, the words left over, and the mark last (R92). -/
theorem State.requestAnchorWrite_succ (j : ConfigJob) {k : Nat} (hk : 1 ≤ k ∧ k < 7) (s : State) :
    State.requestAnchorWrite j (k + 1) s = State.request
      (if k = 6 then
        { purpose := .anchorWrite, addr := 0, body := .write [(.both, 0x6A4B#16)] }
      else
        { purpose := .anchorWrite, addr := 8 * k
          body := .write (bothLanes ((s.anchor.staging.drop (8 * k)).take 8)) })
      { s with anchor.job := some { j with stage := .writingAnchor (k + 1) } } := by
  obtain ⟨hfirst, hlast⟩ := hk
  have htransfer : anchorTransfer s.anchor.staging (k + 1) =
      if k = 6 then (0, [Config.formatMark])
      else (8 * k, (s.anchor.staging.drop (8 * k)).take 8) := by
    rw [anchorTransfer, if_neg (by omega), Nat.add_sub_cancel]
    exact if_congr (by omega) rfl rfl
  rw [State.requestAnchorWrite, htransfer]
  split <;> rfl

section
variable {t : Transfer} {j : ConfigJob} {s s0 : State}

theorem exec_storeWorkStart (hrun : s.running = true) (hstate : s.group.state = .configuring)
    (hjob : s.anchor.job = some j) (hstore : j.store = true) (hstage : j.stage = .waitingQuiet)
    (hquiet : s.quiet = true) :
    exec .storeWorkStart s = .next (State.finish
      (if j.formats then State.requestSlotClear j s else State.beginAnchorWrite j s)) := by
  simp only [exec, execStoreWorkStart, State.within_of_running hrun, hjob, hstate, hstore, hstage,
    hquiet, beq_self_eq_true, Bool.and_self, if_true]

/-- A transfer of the anchor write completes: the next one, the format step or the switch (R92 to
R94). -/
theorem exec_anchorWriteTransferComplete {k : Nat} (h : s.completes .anchorWrite t s0)
    (hjob : s0.anchor.job = some j) (hstage : j.stage = .writingAnchor k) :
    exec .anchorWriteTransferComplete s = .next (State.finish
      (if k < 7 then State.requestAnchorWrite j (k + 1) (State.completed t s0)
      else if j.formats then
        State.setStage j .formatting { State.completed t s0 with journal.handed := some .format }
      else State.switchAnchor j (State.completed t s0))) := by
  refine State.completion_eq h ?_
  simp only [State.completed_anchor, hjob, hstage]

end

/-! ## The switch (R94) -/

theorem maskOf_eq (w : Word) : maskOf w = w.extractLsb' 0 11 :=
  BitVec.setWidth_eq_extractLsb' (by decide)

theorem State.switchAnchor_eq (j : ConfigJob) (s : State) :
    State.switchAnchor j s = State.enterIdle
      { s with
        anchor := { isLive := true, live := s.anchor.staging, staging := s.anchor.staging,
                    job := none }
        events := { pendingSet := raiseIn (.anchorStored j.formats) s.events.pendingSet,
                    mask := maskOf (anchorMask s.anchor.staging) }
        group := if j.fromUnconfigured then
            { s.group with
              timeRunning := true, clkCount := 0
              divisor := anchorDivisor s.anchor.staging }
          else s.group } := by
  unfold State.switchAnchor State.switchTimeBase
  split <;> rfl

/-- Settles O56: the staging copy the anchor write works from is the completed one. -/
theorem storeProceeds : Obligations.StoreProceeds := by
  refine ⟨⟨fun j s hrun hstate hjob hstore hstage hquiet => ?_, fun t j s s0 h hjob => ?_,
    fun j s hlength => ?_, fun t j k s s0 h hjob hstage => ⟨fun hk => ?_, fun hk => ?_⟩⟩,
    fun j s => ?_⟩
  · rw [exec_storeWorkStart hrun hstate hjob hstore hstage hquiet, State.requestSlotClear_eq]
  · refine State.completion_eq h ?_
    simp only [State.completed_anchor, hjob]
  · exact ⟨completedAnchor s.anchor.staging, wordSum_completedAnchor (by omega),
      by rw [completedAnchor_length, hlength], wordAtIndex_completedAnchor_mark (by omega),
      fun k _ h0 h9 => wordAtIndex_completedAnchor_other _ h0 h9, State.beginAnchorWrite_eq j s⟩
  · rw [exec_anchorWriteTransferComplete h hjob hstage, if_pos hk.2,
      State.requestAnchorWrite_succ j hk]
    rfl
  · rw [exec_anchorWriteTransferComplete h hjob hstage, if_neg (by omega)]
    rfl
  · rw [State.switchAnchor_eq, maskOf_eq]

end Sys2Proof.Machine

/-! # Proofs: the anchor load and the choice of the header (O53) -/

namespace Sys2Proof.Machine

section
variable {s s0 : State} {addr n : Nat}

/-! ## One read of the load (R86, R88, R141) -/

theorem fillCopy_getD (copy : List Word) (addr : Nat) (ws : List Word) {k : Nat} (hk : k < 42) :
    (fillCopy copy addr ws).getD k 0 =
      if addr ≤ k ∧ k < addr + ws.length then ws.getD (k - addr) 0 else copy.getD k 0 := by
  simp [fillCopy, hk, wordAtIndex]

/-- A request on a free port is granted at once, so that the grant finds nothing to do. -/
theorem State.grant_request_of_free (t : Transfer) (hport : s.port.inFlight = none)
    (hnone : s.port.requests = Requests.empty)
    (hdue : ∀ g cause, s.journal.backward ≠ .rollbackDue g cause) :
    State.grant (State.request t s) =
      { s with port.inFlight := some t, port.discard := false } := by
  rw [State.request_of_free t hport hnone hdue]
  exact State.grant_of_blocked (.inl (Option.some_ne_none t))

/-- A read of the load is in flight, and nothing else asks for the port (R102). -/
def State.loading (s : State) (addr n : Nat) : Prop :=
  s.port.inFlight = some { purpose := .anchorLoad, addr := addr, body := .read n } ∧
    s.port.requests = Requests.empty ∧ s.journal.backward = .idle

/-- The live copy once the read in flight has completed. -/
def State.liveAfter (s : State) (addr n : Nat) : List Word :=
  fillCopy s.anchor.live addr (Memory.words s.mem addr n)

/-- A read that is not the last one: the next read is in flight. -/
theorem State.loadReads_next (h : s.loading addr n) (hmore : addr + 8 < 42) (reads : Nat) :
    State.loadReads (reads + 1) s = State.loadReads reads
      { s with
        port.inFlight := some (loadTransfer (addr + 8))
        port.discard := false
        anchor.live := s.liveAfter addr n } := by
  obtain ⟨hflight, hrequests, hbackward⟩ := h
  simp only [State.loadReads, hflight, if_true, if_pos hmore]
  exact congrArg (State.loadReads reads)
    (State.grant_request_of_free _ rfl hrequests (by simp [hbackward]))

/-- The last read: the anchor test is applied. -/
theorem State.loadReads_last (h : s.loading addr n) (hlast : ¬ addr + 8 < 42) (reads : Nat) :
    State.loadReads (reads + 1) s = State.endAnchorLoad
      { s with port.inFlight := none, anchor.live := s.liveAfter addr n } := by
  obtain ⟨hflight, -, -⟩ := h
  simp only [State.loadReads, hflight, if_true, if_neg hlast]
  rfl

/-! ## The reads one after another (R88) -/

/-- The words of the live copy below an address are those in memory. -/
def State.loadedTo (s : State) (addr : Nat) : Prop :=
  ∀ k, k < addr → s.anchor.live.getD k 0 = Memory.wordAt s.mem k

theorem State.liveAfter_getD (h : s.loadedTo addr) {k : Nat} (hk : k < addr + n) (h42 : k < 42) :
    (s.liveAfter addr n).getD k 0 = Memory.wordAt s.mem k := by
  rw [State.liveAfter, fillCopy_getD _ _ _ h42, Memory.words_length]
  split
  · rw [Memory.words_getD _ _ _ (by omega), Nat.add_sub_cancel' (by omega)]
  · exact h k (by omega)

/-- After the last read the live copy holds words 0 to 41 of memory. -/
theorem State.liveAfter_eq_words (h : s.loadedTo addr) (hn : 42 ≤ addr + n) :
    s.liveAfter addr n = Memory.words s.mem 0 42 := by
  have hlength : (s.liveAfter addr n).length = 42 := fillCopy_length _ _ _
  refine List.ext_getElem (by rw [hlength, Memory.words_length]) fun k hk hk' => ?_
  rw [← List.getD_eq_getElem _ 0 hk, ← List.getD_eq_getElem _ 0 hk',
    State.liveAfter_getD h (by omega) (by omega), Memory.words_getD _ _ _ (by omega), Nat.zero_add]

/-- The reads that are left fill the rest of the live copy. -/
theorem State.loadReads_eq (reads : Nat) (h : s.loading addr (min 8 (42 - addr)))
    (hloaded : s.loadedTo addr) (haddr : addr < 42) (hreads : 42 ≤ addr + 8 * reads)
    (hdiscard : ¬ addr + 8 < 42 → s.port.discard = false) :
    State.loadReads reads s = State.endAnchorLoad
      { s with
        port.inFlight := none, port.discard := false
        anchor.live := Memory.words s.mem 0 42 } := by
  induction reads generalizing s addr with
  | zero => omega
  | succ reads ih =>
    by_cases hmore : addr + 8 < 42
    · rw [State.loadReads_next h hmore reads]
      obtain ⟨-, hrequests, hbackward⟩ := h
      refine ih (addr := addr + 8) ⟨rfl, hrequests, hbackward⟩ (fun k hk => ?_) hmore (by omega)
        fun _ => rfl
      exact State.liveAfter_getD hloaded (by omega) (by omega)
    · rw [State.loadReads_last h hmore reads, State.liveAfter_eq_words hloaded (by omega)]
      simp only [hdiscard hmore]

/-! ## The end of the load (R87, R88, R102) -/

theorem State.endAnchorLoad_of_valid (h : anchorFault s.anchor.live = none) :
    State.endAnchorLoad s = State.request
      { purpose := .slotsRead, addr := anchorBase s.anchor.live * 512, body := .read 8 }
      (State.markRelease
        { s with
          anchor.staging := s.anchor.live
          anchor.isLive := true
          events.mask := maskOf (anchorMask s.anchor.live)
          journal.backward := .headerChoice
          group.timeRunning := true
          group.clkCount := 0
          group.divisor := anchorDivisor s.anchor.live }) := by
  simp only [State.endAnchorLoad, h, State.requestJournalRead, journalWord, Nat.add_zero]
  rfl

theorem State.endAnchorLoad_of_fault {reason : AnchorFault}
    (h : anchorFault s.anchor.live = some reason) :
    State.endAnchorLoad s = State.markRelease
      { s with
        group.state := .unconfigured
        anchor.staging := List.replicate 42 0
        anchor.isLive := false
        events.pendingSet := raiseIn (.anchorInvalid reason) s.events.pendingSet } := by
  simp only [State.endAnchorLoad, h]
  rfl

/-- ANCHOR_LOAD_COMPLETE on the first of the six reads. -/
theorem exec_anchorLoadComplete (h : s.closesTo s0) (hload : s0.loading 0 8) :
    exec .anchorLoadComplete s = .next (State.finish (State.endAnchorLoad
      { s0 with
        port.inFlight := none, port.discard := false
        anchor.live := Memory.words s0.mem 0 42 })) := by
  have hreads := State.loadReads_eq 6 hload (fun k hk => absurd hk (Nat.not_lt_zero k))
    (by omega) (by omega)
    fun hlast => absurd (by omega) hlast
  exact (State.outside_of_closesTo h _).trans (by rw [hreads])

/-! ## The header slots (R104, R105, R111) -/

theorem exec_headerSlotsReadComplete_of_none {t : Transfer} (h : s.completes .slotsRead t s0)
    (hnone : newestHeader (journalWords s0.anchor.live) (Transfer.wordsRead t s0.mem) = none) :
    exec .headerSlotsReadComplete s =
      .next (State.finish (State.haltJournal .header 0 (State.completed t s0))) := by
  refine State.completion_eq h ?_
  simp only [State.completed_anchor, hnone]

theorem exec_headerSlotsReadComplete_of_some {t : Transfer} {hd : Header}
    (h : s.completes .slotsRead t s0)
    (hsome : newestHeader (journalWords s0.anchor.live) (Transfer.wordsRead t s0.mem) = some hd) :
    exec .headerSlotsReadComplete s = .next (State.finish
      (if hd.group = 0 then
        State.finishRecovery { State.completed t s0 with journal.header := some hd }
      else State.requestWalk 8 [] { State.completed t s0 with journal.header := some hd })) := by
  refine State.completion_eq h ?_
  simp only [State.completed_anchor, hsome]

end

/-- Settles O53: after the six reads the live copy holds words 0 to 41 of memory, and the anchor test
is applied to them. -/
theorem anchorLoadAndHeaderChoice : Obligations.AnchorLoadAndHeaderChoice := by
  refine ⟨fun addr n s hflight hrequests hbackward hmore => ?_,
    fun s s0 h hflight hrequests hbackward => ⟨fun hvalid => ?_, fun reason hfault => ?_⟩,
    fun t s s0 h => ⟨fun hnone => ?_, fun hd hsome => ?_⟩⟩
  · have hleft : 42 - (addr + 8) = 34 - addr := by omega
    rw [State.loadReads_next ⟨hflight, hrequests, hbackward⟩ hmore, State.loadReads, loadTransfer,
      Config.anchorWords, hleft, State.liveAfter, fillCopy, Memory.words_length]
    rfl
  · rw [exec_anchorLoadComplete h ⟨hflight, hrequests, hbackward⟩,
      State.endAnchorLoad_of_valid hvalid, maskOf_eq]
  · rw [exec_anchorLoadComplete h ⟨hflight, hrequests, hbackward⟩,
      State.endAnchorLoad_of_fault hfault]
  · exact exec_headerSlotsReadComplete_of_none h hnone
  · rw [exec_headerSlotsReadComplete_of_some h hsome]
    rfl

end Sys2Proof.Machine

/-! # Proofs: both anchor copies keep their 42 words (O60)

The anchor load, the store and the two commands that write the staging copy are all that touch the
copies; every other operation leaves the anchor unit as it is. -/

namespace Sys2Proof.Machine

/-! ## Operations that leave the anchor unit -/

@[simp] theorem State.takeTick_anchor (s : State) : (State.takeTick s).anchor = s.anchor := rfl

@[simp] theorem State.setPhase_anchor (a : Access) (p : AccessPhase) (s : State) :
    (State.setPhase a p s).anchor = s.anchor := rfl

@[simp] theorem State.powerFailScan_anchor (s : State) :
    (State.powerFailScan s).anchor = s.anchor := by
  simp [State.powerFailScan]

@[simp] theorem State.reserve_anchor (a : Access) (s : State) :
    (State.reserve a s).anchor = s.anchor := by
  simp only [State.reserve]
  (repeat' split) <;> rfl

@[simp] theorem State.requestHostRead_anchor (a : Access) (s : State) :
    (State.requestHostRead a s).anchor = s.anchor := by
  simp [State.requestHostRead]

@[simp] theorem State.classify_anchor (a : Access) (s : State) :
    (State.classify a s).anchor = s.anchor := by
  unfold State.classify
  cases State.verdict a s with
  | refuse reason | hold => rfl
  | serve =>
    dsimp only
    split
    · rfl
    · exact State.requestHostRead_anchor a s
  | postPlain =>
    dsimp only
    split <;> rfl
  | postGroup =>
    dsimp only
    split
    · rfl
    · exact State.reserve_anchor a s

@[simp] theorem State.formingPhase_anchor (a : Access) (p : Post) (d : Word) (s : State) :
    (State.formingPhase a p d s).anchor = s.anchor := by
  simp only [State.formingPhase]
  split <;> rfl

@[simp] theorem State.earlyPhase_anchor (a : Access) (s : State) :
    (State.earlyPhase a s).anchor = s.anchor := by
  simp only [State.earlyPhase]
  (repeat' split) <;> rfl

@[simp] theorem State.takeDataPhase_anchor (d : Word) (s : State) :
    (State.takeDataPhase d s).anchor = s.anchor := by
  unfold State.takeDataPhase
  split
  · rfl
  · rename_i a _
    cases a.phase with
    | forming post => exact State.formingPhase_anchor a post d s
    | readRequested => exact State.earlyPhase_anchor a s
    | _ => rfl

@[simp] theorem State.requestDataWrite_anchor (e : Entry) (s : State) :
    (State.requestDataWrite e s).anchor = s.anchor := by
  simp [State.requestDataWrite]

@[simp] theorem State.takeHead_anchor (s : State) : (State.takeHead s).anchor = s.anchor := by
  unfold State.takeHead
  split
  · rfl
  · simp [State.beginRetire_eq]

@[simp] theorem State.requestFormat_anchor (k : Nat) (s : State) :
    (State.requestFormat k s).anchor = s.anchor := by
  simp [State.requestFormat]

@[simp] theorem State.wipeStep_anchor (next : Nat) (s : State) :
    (State.wipeStep next s).anchor = s.anchor := by
  simp only [State.wipeStep]
  split <;> simp

@[simp] theorem State.beginGroupWork_anchor (w : GroupWork) (s : State) :
    (State.beginGroupWork w s).anchor = s.anchor := by
  unfold State.beginGroupWork
  (repeat' split) <;> simp

@[simp] theorem State.requestOpeningHeader_anchor (s : State) :
    (State.requestOpeningHeader s).anchor = s.anchor := by
  simp [State.requestOpeningHeader]

@[simp] theorem State.leaveOpening_anchor (s : State) :
    (State.leaveOpening s).anchor = s.anchor := by
  simp only [State.leaveOpening]
  (repeat' split) <;> simp

@[simp] theorem State.leaveCommitting_anchor (s : State) :
    (State.leaveCommitting s).anchor = s.anchor := by
  unfold State.leaveCommitting
  split <;> simp

@[simp] theorem State.leaveRollback_anchor (s : State) :
    (State.leaveRollback s).anchor = s.anchor := by
  unfold State.leaveRollback
  split <;> simp

@[simp] theorem State.requestWalk_anchor (position : Nat) (blocks : List Nat) (s : State) :
    (State.requestWalk position blocks s).anchor = s.anchor := by
  simp [State.requestWalk]

@[simp] theorem State.runClosed_anchor (walkEnd : Nat) (s : State) :
    (State.runClosed walkEnd s).anchor = s.anchor := by
  unfold State.runClosed
  split <;> simp

@[simp] theorem State.runOpen_anchor (blocks : List Nat) (s : State) :
    (State.runOpen blocks s).anchor = s.anchor := by
  unfold State.runOpen
  split <;> simp

@[simp] theorem State.walkStops_anchor (position : Nat) (blocks : List Nat) (s : State) :
    (State.walkStops position blocks s).anchor = s.anchor := by
  unfold State.walkStops
  split <;> simp

@[simp] theorem State.walkOn_anchor (position : Nat) (blocks : List Nat) (s : State) :
    (State.walkOn position blocks s).anchor = s.anchor := by
  unfold State.walkOn
  split <;> simp

@[simp] theorem State.takeScanRegion_anchor (index : Byte) (s : State) :
    (State.takeScanRegion index s).anchor = s.anchor := by
  unfold State.takeScanRegion
  (repeat' split) <;> simp

@[simp] theorem State.takeExpiry_anchor (s : State) :
    (State.takeExpiry s).anchor = s.anchor := by
  unfold State.takeExpiry
  (repeat' split) <;> simp

@[simp] theorem State.endPeriodicScan_anchor (s : State) :
    (State.endPeriodicScan s).anchor = s.anchor := by
  simp only [State.endPeriodicScan]
  split <;> rfl

@[simp] theorem State.foldScanRead_anchor (ws : List Word) (s : State) :
    (State.foldScanRead ws s).anchor = s.anchor := by
  simp only [State.foldScanRead]
  (repeat' split) <;> simp [State.endRequestedScan]

@[simp] theorem State.endFrame_anchor (received : List Byte) (s : State) :
    (State.endFrame received s).anchor = s.anchor := by
  simp only [State.endFrame]
  split <;> rfl

@[simp] theorem State.takeNextEvent_anchor (s : State) :
    (State.takeNextEvent s).anchor = s.anchor := by
  unfold State.takeNextEvent
  split <;> rfl

@[simp] theorem State.takeAbortGroup_anchor (s : State) :
    (State.takeAbortGroup s).anchor = s.anchor := by
  unfold State.takeAbortGroup
  (repeat' split) <;> simp

@[simp] theorem State.takeSetMask_anchor (mask : Word) (s : State) :
    (State.takeSetMask mask s).anchor = s.anchor := by
  unfold State.takeSetMask
  split <;> rfl

@[simp] theorem State.takeCopyRead_anchor (i : Instr) (copy : List Word) (o n : Byte) (s : State) :
    (State.takeCopyRead i copy o n s).anchor = s.anchor := by
  unfold State.takeCopyRead
  (repeat' split) <;> rfl

@[simp] theorem State.takeReadJournal_anchor (o : Word) (n : Byte) (s : State) :
    (State.takeReadJournal o n s).anchor = s.anchor := by
  unfold State.takeReadJournal
  (repeat' split) <;> simp

@[simp] theorem State.takeRise_anchor (s : State) : (State.takeRise s).anchor = s.anchor := by
  unfold State.takeRise
  cases s.group.state <;> simp

@[simp] theorem State.takeFall_anchor (s : State) : (State.takeFall s).anchor = s.anchor := by
  unfold State.takeFall
  cases s.group.state <;> simp

/-! ## Keeping the copies -/

section
variable {s t : State}

/-- The copies' words go on from one state to another. -/
def State.keepsCopies (s t : State) : Prop := s.copiesWhole → t.copiesWhole

theorem State.keepsCopies.refl (s : State) : s.keepsCopies s := id

theorem State.keepsCopies.trans {s' : State} (h : s.keepsCopies s') (h' : s'.keepsCopies t) :
    s.keepsCopies t :=
  h' ∘ h

theorem State.keepsCopies.ite {c : Prop} {_ : Decidable c} {a b : State} (ha : s.keepsCopies a)
    (hb : s.keepsCopies b) : s.keepsCopies (if c then a else b) := by
  split
  · exact ha
  · exact hb

/-- Copies that have 42 words whatever they had before. -/
theorem State.keepsCopies.of_whole (h : t.copiesWhole) : s.keepsCopies t := fun _ => h

/-- The copies as they were, whatever becomes of the work of CONFIGURING. -/
theorem State.keepsCopies.of_eq (hlive : t.anchor.live = s.anchor.live)
    (hstaging : t.anchor.staging = s.anchor.staging) : s.keepsCopies t := by
  rintro ⟨hl, hs⟩
  exact ⟨hlive ▸ hl, hstaging ▸ hs⟩

/-- The anchor unit as it was; the frame lemmas of an operation say so. -/
theorem State.keepsCopies.of_anchor (h : t.anchor = s.anchor) : s.keepsCopies t :=
  .of_eq (h ▸ rfl) (h ▸ rfl)

/-! ## The reset values and the anchor load (R86, R99) -/

theorem State.copiesWhole_cleared (s : State) : (State.cleared s).copiesWhole :=
  ⟨List.length_replicate, List.length_replicate⟩

theorem State.copiesWhole_startUp (straps : BitVec 2) (s : State) :
    (State.startUp straps s).copiesWhole := by
  simp [State.startUp, State.beginRecovery, State.copiesWhole, State.cleared, AnchorUnit.reset]

/-- At the end of the load the staging copy is the live copy's, or all zero (R87, R88). -/
theorem State.copiesWhole_endAnchorLoad (h : s.anchor.live.length = 42) :
    (State.endAnchorLoad s).copiesWhole := by
  cases hfault : anchorFault s.anchor.live with
  | none => simp [State.endAnchorLoad_of_valid hfault, State.copiesWhole, h]
  | some reason => simp [State.endAnchorLoad_of_fault hfault, State.copiesWhole, h]

/-- Each read of the load fills in its words among the 42 (R86). -/
theorem State.keepsCopies_loadReads (reads : Nat) (s : State) :
    s.keepsCopies (State.loadReads reads s) := by
  induction reads generalizing s with
  | zero => exact .refl s
  | succ reads ih =>
    rw [State.loadReads]
    split
    · split
      · dsimp only
        split
        · refine .trans (fun hs => ?_) (ih _)
          simpa [State.copiesWhole] using hs.2
        · exact .of_whole (State.copiesWhole_endAnchorLoad (fillCopy_length _ _ _))
      · exact .refl s
    · exact .refl s

/-! ## The staging copy written over the link (R87, R172) -/

theorem State.keepsCopies_takeStage (o : Byte) {n : Byte} {ws : List Word}
    (hwf : stageWordsWf n ws = true) (s : State) :
    s.keepsCopies (State.takeStage o n ws s) := by
  unfold State.takeStage
  refine .ite (.of_anchor (by simp)) ?_
  split
  · rename_i hrange
    obtain ⟨-, hpos, height, hfits⟩ := (copyRange_iff o n).mp hrange
    have hws := length_of_stageWordsWf hwf ⟨hpos, height⟩
    rintro ⟨hlive, hstaging⟩
    exact ⟨hlive, (replaceWords_length (by omega)).trans hstaging⟩
  · exact .of_anchor (by simp)

theorem State.keepsCopies_takeCopyLive (s : State) : s.keepsCopies (State.takeCopyLive s) := by
  refine .ite (.of_anchor (by simp)) ?_
  rintro ⟨hlive, -⟩
  exact ⟨hlive, hlive⟩

/-! ## The store (R91 to R94) -/

theorem State.keepsCopies_enterConfiguring (job : ConfigJob) (s : State) :
    s.keepsCopies (State.enterConfiguring job s) := by
  rw [State.enterConfiguring_eq_markRelease]
  exact .of_eq (by simp) (by simp)

theorem State.keepsCopies_takeStoreAnchor (s : State) :
    s.keepsCopies (State.takeStoreAnchor s) := by
  unfold State.takeStoreAnchor
  refine .ite ?_ (.of_anchor (by simp))
  split
  · exact .of_anchor (by simp)
  · exact State.keepsCopies_enterConfiguring _ s

theorem State.keepsCopies_takeFormat (s : State) : s.keepsCopies (State.takeFormat s) :=
  .ite (State.keepsCopies_enterConfiguring _ { s with journal.handed := some .format })
    (.of_anchor (by simp))

theorem State.keepsCopies_setStage (j : ConfigJob) (stage : JobStage) (s : State) :
    s.keepsCopies (State.setStage j stage s) := .of_eq rfl rfl

theorem State.keepsCopies_requestAnchorWrite (j : ConfigJob) (k : Nat) (s : State) :
    s.keepsCopies (State.requestAnchorWrite j k s) := by
  unfold State.requestAnchorWrite
  exact .trans (State.keepsCopies_setStage j (.writingAnchor k) s) (.of_anchor (by simp))

theorem State.keepsCopies_beginAnchorWrite (j : ConfigJob) (s : State) :
    s.keepsCopies (State.beginAnchorWrite j s) := by
  rw [State.beginAnchorWrite_eq]
  rintro ⟨hlive, hstaging⟩
  simp [State.copiesWhole, hlive, hstaging]

theorem State.keepsCopies_requestSlotClear (j : ConfigJob) (s : State) :
    s.keepsCopies (State.requestSlotClear j s) := by
  rw [State.requestSlotClear_eq]
  exact .of_eq (by simp) (by simp)

theorem State.keepsCopies_switchAnchor (j : ConfigJob) (s : State) :
    s.keepsCopies (State.switchAnchor j s) := by
  rw [State.switchAnchor_eq]
  rintro ⟨-, hstaging⟩
  simp [State.copiesWhole, hstaging]

theorem State.keepsCopies_endFormat (s : State) : s.keepsCopies (State.endFormat s) := by
  cases hj : s.anchor.job with
  | none =>
    simp only [State.endFormat, hj]
    exact .of_anchor (by simp)
  | some j =>
    rw [State.endFormat_of_job hj]
    exact .ite (State.keepsCopies_switchAnchor j
      { s with journal.forward := none, journal.header := some (formatHeader .b) })
      (.of_eq (by simp) (by simp))

/-! ## The forms a meaning has -/

theorem State.keepsCopies_of_next {s' : State}
    (he : (Host.Outcome.next s' : Host.Outcome State Fault Refusal) = .next t)
    (h : s.keepsCopies s') : s.keepsCopies t := by
  obtain rfl := Host.Outcome.next.inj he
  exact h

theorem State.outside_keepsCopies {f : State → State} (he : State.outside f s = .next t)
    (hf : ∀ s : State, s.keepsCopies (f s)) : s.keepsCopies t := by
  obtain rfl := State.outside_eq_next.mp he
  have hsettled : s.keepsCopies (State.settle s) := .of_anchor (by simp)
  exact .ite ((hsettled.trans (hf _)).trans (.of_anchor (by simp))) (.refl s)

theorem State.within_keepsCopies {f : State → State} (he : State.within f s = .next t)
    (hf : ∀ s : State, s.keepsCopies (f s)) : s.keepsCopies t := by
  obtain rfl := State.within_eq_next.mp he
  exact .ite ((hf s).trans (.of_anchor (by simp))) (.refl s)

/-- A command of the link: nothing outside an awaiting frame. -/
theorem State.link_keepsCopies {f : State → State}
    (he : State.outside (State.inFrame f) s = .next t)
    (hf : ∀ s : State, s.keepsCopies (f s)) : s.keepsCopies t :=
  State.outside_keepsCopies he fun s => .ite (hf s) (.refl s)

/-- A completion: its owner goes on with the port free, or nothing completes. -/
theorem State.completion_keepsCopies {p : Purpose} {after : Transfer → List Word → State → State}
    (he : State.outside (State.complete p after) s = .next t)
    (hafter : ∀ tr ws (s : State), s.keepsCopies (after tr ws s)) : s.keepsCopies t := by
  refine State.outside_keepsCopies he fun s => ?_
  rcases State.complete_cases p after s with ⟨tr, -, -, heq⟩ | ⟨-, heq⟩
  · rw [heq]
    exact State.keepsCopies.trans (s' := State.completed tr s) (.of_anchor (by simp)) (hafter _ _ _)
  · rw [heq]
    exact .refl s

/-! ## The commands -/

/-- The commands of the supply and of the lines. -/
theorem exec_keepsCopies_of_lineEvent {c : Instr} (hline : isLineEvent c = true)
    (he : exec c s = .next t) : s.keepsCopies t := by
  cases c <;> simp only [isLineEvent, Bool.false_eq_true] at hline
  case powerOn straps =>
    exact State.keepsCopies_of_next he (.ite (.refl s) (.ite
      (.of_whole (State.copiesWhole_cleared _)) (.of_whole (State.copiesWhole_startUp straps _))))
  case powerLoss =>
    exact State.keepsCopies_of_next he (.ite (.of_whole (State.copiesWhole_cleared _)) (.refl s))
  case rstAssertion =>
    exact State.keepsCopies_of_next he
      (.ite (.refl s) (.ite (.of_whole (State.copiesWhole_cleared _)) (.of_anchor (by simp))))
  case rstRelease straps =>
    exact State.keepsCopies_of_next he
      (.ite (.ite (.of_whole (State.copiesWhole_startUp straps _)) (.of_anchor (by simp))) (.refl s))
  case pfailAssertion =>
    exact State.keepsCopies_of_next he
      (.ite (.refl s) (.ite (.of_anchor (by simp)) (.of_anchor (by simp))))
  case pfailDeassertion =>
    refine State.keepsCopies_of_next he (.ite ?_ (.refl s))
    have hclosed : s.keepsCopies (if s.running then State.settle s else s) :=
      .ite (.of_anchor (by simp)) (.refl s)
    exact hclosed
  case grpRise | lselAssertion =>
    simp only [exec, execGrpRise, execLselAssertion] at he
    split at he
    · exact State.keepsCopies_of_next he (.refl s)
    · split at he
      · exact State.outside_keepsCopies he fun s => .of_anchor (by simp)
      · exact State.keepsCopies_of_next he (.of_anchor (by simp))
  case grpFall | lselDeassertion =>
    simp only [exec, execGrpFall, execLselDeassertion] at he
    split at he
    · split at he
      · exact State.outside_keepsCopies he fun s => .of_anchor (by simp)
      · exact State.keepsCopies_of_next he (.of_anchor (by simp))
    · exact State.keepsCopies_of_next he (.refl s)

/-- The commands of the link: STAGE, COPY_LIVE_TO_STAGE and the two that enter CONFIGURING touch the
anchor unit. -/
theorem exec_keepsCopies_of_linkPart {c : Instr} (hlink : Instr.isLinkPart c = true)
    (he : exec c s = .next t) : s.keepsCopies t := by
  cases c
  case stage =>
    refine State.link_keepsCopies he fun s => ?_
    split
    · exact State.keepsCopies_takeStage _ ‹_› s
    · exact .refl s
  case copyLiveToStage => exact State.link_keepsCopies he State.keepsCopies_takeCopyLive
  case storeAnchor => exact State.link_keepsCopies he State.keepsCopies_takeStoreAnchor
  case format => exact State.link_keepsCopies he State.keepsCopies_takeFormat
  case unknownCommand =>
    exact State.link_keepsCopies he fun s => .ite (.refl s) (.of_anchor (by simp))
  case badCheckFrame =>
    exact State.link_keepsCopies he fun s => .ite (.of_anchor (by simp)) (.refl s)
  case status | nextEvent | abortGroup | setMask | readLive | readStage | readJournal |
      scanRegion => exact State.link_keepsCopies he fun s => .of_anchor (by simp)
  all_goals exact absurd (show false = true from hlink) Bool.false_ne_true

/-- The completions: the anchor load, the store's transfers and the end of a format move the anchor
unit on. -/
theorem exec_keepsCopies_of_completion {c : Instr} (hc : ∃ p, c = Purpose.completion p)
    (he : exec c s = .next t) : s.keepsCopies t := by
  obtain ⟨p, rfl⟩ := hc
  cases p <;> simp only [Purpose.completion] at he
  case anchorLoad => exact State.outside_keepsCopies he (State.keepsCopies_loadReads 6)
  case slotClear =>
    refine State.completion_keepsCopies he fun _ _ s => ?_
    split
    · exact State.keepsCopies_beginAnchorWrite _ s
    · exact .refl s
  case anchorWrite =>
    refine State.completion_keepsCopies he fun _ _ s => ?_
    split
    · split
      · exact .ite (State.keepsCopies_requestAnchorWrite _ _ s)
          (.ite (State.keepsCopies_setStage _ _ { s with journal.handed := some .format })
            (State.keepsCopies_switchAnchor _ s))
      · exact .refl s
    · exact .refl s
  case format =>
    refine State.completion_keepsCopies he fun _ _ s => ?_
    split
    · exact .ite (.of_anchor (by simp)) (State.keepsCopies_endFormat s)
    · exact .refl s
  case linkRead | recoveryRewrite | wipeHeader | openingHeader | openRecord | commitRecord |
      commitHeader | dataWrite =>
    exact State.completion_keepsCopies he fun _ _ s => .of_anchor (by simp)
  case scanRead =>
    exact State.completion_keepsCopies he fun _ _ s =>
      .ite (.of_anchor (by simp)) (.of_anchor (by simp))
  case restoreWrite =>
    refine State.completion_keepsCopies he fun _ _ s => ?_
    split
    · exact .ite (.of_anchor (by simp)) (.of_anchor (by simp))
    · exact .refl s
  all_goals
    refine State.completion_keepsCopies he fun _ _ s => ?_
    (repeat' split) <;> exact .of_anchor (by simp)

theorem exec_keepsCopies {c : Instr} (he : exec c s = .next t) : s.keepsCopies t := by
  cases c
  case storeWorkStart =>
    simp only [exec, execStoreWorkStart] at he
    refine State.within_keepsCopies he fun s => ?_
    split
    · exact .ite (.ite (State.keepsCopies_requestSlotClear _ s)
        (State.keepsCopies_beginAnchorWrite _ s)) (.refl s)
    · exact .refl s
  case ageTimeout | duePeriodicScanStart =>
    exact State.within_keepsCopies he fun s => .of_anchor (by simp)
  case hostDataPhase => exact State.outside_keepsCopies he fun s => .of_anchor (by simp)
  case tick | hostAddressPhase =>
    simp only [exec, execTick, execHostAddressPhase] at he
    exact State.outside_keepsCopies he fun s => .ite (.of_anchor (by simp)) (.refl s)
  case scanIntervalExpiry | safeEntry =>
    simp only [exec, execScanIntervalExpiry, execSafeEntry] at he
    exact State.within_keepsCopies he fun s => .ite (.of_anchor (by simp)) (.refl s)
  case heldAccessRelease | waitingWriteTakesPlace | queuedReadProceeds | forwardWorkStart |
      backwardActivityStart =>
    simp only [exec, execHeldAccessRelease, execWaitingWriteTakesPlace, execQueuedReadProceeds,
      execForwardWorkStart, execBackwardActivityStart] at he
    refine State.within_keepsCopies he fun s => ?_
    (repeat' split) <;> exact .of_anchor (by simp)
  case powerOn | powerLoss | rstAssertion | rstRelease | grpRise | grpFall | pfailAssertion |
      pfailDeassertion | lselAssertion | lselDeassertion =>
    exact exec_keepsCopies_of_lineEvent rfl he
  case status | nextEvent | abortGroup | setMask | readLive | readStage | stage | copyLiveToStage |
      storeAnchor | format | readJournal | scanRegion | unknownCommand | badCheckFrame =>
    exact exec_keepsCopies_of_linkPart rfl he
  all_goals exact exec_keepsCopies_of_completion (eq_completion_of_isCompletion rfl) he

end

/-- Settles O60: each command is a chain of operations that keep the copies' lengths. -/
theorem anchorCopiesKept : Obligations.AnchorCopiesKept := by
  intro s t h he
  rw [step_eq] at he
  split at he
  · exact exec_keepsCopies he h
  · exact State.outside_keepsCopies he (fun s => .refl s) h

end Sys2Proof.Machine

/-! # Proofs: the reset values and start-up (O2, O31) -/

namespace Sys2Proof.Machine

/-- Settles O2: each value is the one that the block's own reset gives it. -/
theorem resetValues : Obligations.ResetValues := by
  unfold Obligations.ResetValues
  and_intros <;> rfl

/-- Start-up: on the blocks at their reset values the first read of the anchor load finds the port
free (R88, R102, R145). -/
theorem State.startUp_eq (straps : BitVec 2) (s : State) :
    State.startUp straps s =
      { State.reset with
        lines := { s.lines with waits := straps }
        power := if s.lines.pfail then .draining else .normal
        link := { State.reset.link with frame := resetFrame (s.lines.powered && s.lines.lsel) }
        mem := s.mem, freeCount := s.freeCount, pending := s.pending } := by
  rw [State.startUp, State.beginRecovery, State.request_of_free (loadTransfer 0)]
  · rfl
  · rfl
  · rfl
  · exact fun _ _ => nofun

/-- Settles O31: a start of the bridge is `State.startUp_eq` in both commands; under RST the supply
alone leaves the reset values. -/
theorem startUp : Obligations.StartUp := by
  refine ⟨fun straps s hpow hrst => ?_, fun straps s hpow hrst => ?_,
    fun straps s hpow hrst => ⟨?_, ?_⟩⟩
  · simp [exec, execPowerOn, hpow, hrst, State.startUp_eq, resetFrame]
  · simp [exec, execRstRelease, hpow, hrst, State.startUp_eq, resetFrame]
  · simp only [exec, execPowerOn, hpow, hrst, Bool.false_eq_true, if_false, if_true]
    exact congrArg _ (State.cleared_of_powered rfl)
  · simp [exec, execRstRelease, hpow, hrst]

end Sys2Proof.Machine

/-! # Proofs: the power condition, and the bridge at rest (O15)

A command that a running bridge takes moves neither supply nor RST nor PFAIL and leaves the power
condition to the finish; only the commands of the supply and of the lines set it themselves. -/

namespace Sys2Proof.Machine

/-! ## Operations that leave the power condition -/

/-! ### The host bus port -/

@[simp] theorem State.setPhase_power (a : Access) (p : AccessPhase) (s : State) :
    (State.setPhase a p s).power = s.power := rfl

@[simp] theorem State.refuseAccess_power (r : RefusalReason) (a : Access) (s : State) :
    (State.refuseAccess r a s).power = s.power := rfl

@[simp] theorem State.post_power (a : Access) (p : Post) (s : State) :
    (State.post a p s).power = s.power := rfl

@[simp] theorem State.answerPhase_power (a : Access) (ans : Answer) (ws : List Word) (s : State) :
    (State.answerPhase a ans ws s).power = s.power := rfl

@[simp] theorem State.reserve_power (a : Access) (s : State) :
    (State.reserve a s).power = s.power := by
  simp only [State.reserve]
  (repeat' split) <;> rfl

@[simp] theorem State.requestHostRead_power (a : Access) (s : State) :
    (State.requestHostRead a s).power = s.power := by
  simp [State.requestHostRead]

@[simp] theorem State.classify_power (a : Access) (s : State) :
    (State.classify a s).power = s.power := by
  unfold State.classify
  (repeat' split) <;> simp

@[simp] theorem State.formingPhase_power (a : Access) (p : Post) (d : Word) (s : State) :
    (State.formingPhase a p d s).power = s.power := by
  unfold State.formingPhase
  split <;> simp

@[simp] theorem State.earlyPhase_power (a : Access) (s : State) :
    (State.earlyPhase a s).power = s.power := by
  simp only [State.earlyPhase]
  (repeat' split) <;> rfl

@[simp] theorem State.takeDataPhase_power (d : Word) (s : State) :
    (State.takeDataPhase d s).power = s.power := by
  unfold State.takeDataPhase
  (repeat' split) <;> simp

/-! ### The forward activity -/

@[simp] theorem State.requestDataWrite_power (e : Entry) (s : State) :
    (State.requestDataWrite e s).power = s.power := by
  simp [State.requestDataWrite]

@[simp] theorem State.beginRetire_power (e : Entry) (s : State) :
    (State.beginRetire e s).power = s.power := by
  unfold State.beginRetire
  split <;> simp

@[simp] theorem State.takeHead_power (s : State) :
    (State.takeHead s).power = s.power := by
  unfold State.takeHead
  split <;> simp

@[simp] theorem State.requestFormat_power (k : Nat) (s : State) :
    (State.requestFormat k s).power = s.power := by
  simp [State.requestFormat]

@[simp] theorem State.wipeStep_power (next : Nat) (s : State) :
    (State.wipeStep next s).power = s.power := by
  simp only [State.wipeStep]
  split <;> simp

@[simp] theorem State.beginGroupWork_power (w : GroupWork) (s : State) :
    (State.beginGroupWork w s).power = s.power := by
  unfold State.beginGroupWork
  (repeat' split) <;> simp

@[simp] theorem State.requestOpeningHeader_power (s : State) :
    (State.requestOpeningHeader s).power = s.power := by
  simp [State.requestOpeningHeader]

@[simp] theorem State.leaveOpening_power (s : State) :
    (State.leaveOpening s).power = s.power := by
  simp only [State.leaveOpening]
  (repeat' split) <;> simp

@[simp] theorem State.leaveCommitting_power (s : State) :
    (State.leaveCommitting s).power = s.power := by
  unfold State.leaveCommitting
  split <;> simp

@[simp] theorem State.leaveRollback_power (s : State) :
    (State.leaveRollback s).power = s.power := by
  unfold State.leaveRollback
  split <;> simp

/-! ### Recovery -/

@[simp] theorem State.requestWalk_power (position : Nat) (blocks : List Nat) (s : State) :
    (State.requestWalk position blocks s).power = s.power := by
  simp [State.requestWalk]

@[simp] theorem State.runClosed_power (walkEnd : Nat) (s : State) :
    (State.runClosed walkEnd s).power = s.power := by
  unfold State.runClosed
  split <;> simp

@[simp] theorem State.runOpen_power (blocks : List Nat) (s : State) :
    (State.runOpen blocks s).power = s.power := by
  unfold State.runOpen
  split <;> simp

@[simp] theorem State.walkStops_power (position : Nat) (blocks : List Nat) (s : State) :
    (State.walkStops position blocks s).power = s.power := by
  unfold State.walkStops
  split <;> simp

@[simp] theorem State.walkOn_power (position : Nat) (blocks : List Nat) (s : State) :
    (State.walkOn position blocks s).power = s.power := by
  unfold State.walkOn
  split <;> simp

/-! ### The work of CONFIGURING -/

@[simp] theorem State.setStage_power (j : ConfigJob) (stage : JobStage) (s : State) :
    (State.setStage j stage s).power = s.power := rfl

@[simp] theorem State.switchTimeBase_power (j : ConfigJob) (s : State) :
    (State.switchTimeBase j s).power = s.power := by
  unfold State.switchTimeBase
  split <;> simp

@[simp] theorem State.enterConfiguring_power (job : ConfigJob) (s : State) :
    (State.enterConfiguring job s).power = s.power := by
  simp [State.enterConfiguring]

@[simp] theorem State.takeStoreAnchor_power (s : State) :
    (State.takeStoreAnchor s).power = s.power := by
  unfold State.takeStoreAnchor
  (repeat' split) <;> simp

@[simp] theorem State.takeFormat_power (s : State) :
    (State.takeFormat s).power = s.power := by
  unfold State.takeFormat
  split <;> simp

@[simp] theorem State.requestAnchorWrite_power (j : ConfigJob) (k : Nat) (s : State) :
    (State.requestAnchorWrite j k s).power = s.power := by
  simp [State.requestAnchorWrite]

@[simp] theorem State.beginAnchorWrite_power (j : ConfigJob) (s : State) :
    (State.beginAnchorWrite j s).power = s.power := by
  simp [State.beginAnchorWrite]

@[simp] theorem State.requestSlotClear_power (j : ConfigJob) (s : State) :
    (State.requestSlotClear j s).power = s.power := by
  simp [State.requestSlotClear]

@[simp] theorem State.switchAnchor_power (j : ConfigJob) (s : State) :
    (State.switchAnchor j s).power = s.power := by
  simp [State.switchAnchor]

@[simp] theorem State.endFormat_power (s : State) :
    (State.endFormat s).power = s.power := by
  simp only [State.endFormat]
  (repeat' split) <;> simp

/-! ### The scanner and the time base -/

@[simp] theorem State.takeTick_power (s : State) :
    (State.takeTick s).power = s.power := rfl

@[simp] theorem State.takeScanRegion_power (index : Byte) (s : State) :
    (State.takeScanRegion index s).power = s.power := by
  unfold State.takeScanRegion
  (repeat' split) <;> simp

@[simp] theorem State.takeExpiry_power (s : State) :
    (State.takeExpiry s).power = s.power := by
  unfold State.takeExpiry
  (repeat' split) <;> simp

@[simp] theorem State.endPeriodicScan_power (s : State) :
    (State.endPeriodicScan s).power = s.power := by
  simp only [State.endPeriodicScan]
  split <;> simp

@[simp] theorem State.endRequestedScan_power (s : State) :
    (State.endRequestedScan s).power = s.power := rfl

@[simp] theorem State.foldScanRead_power (ws : List Word) (s : State) :
    (State.foldScanRead ws s).power = s.power := by
  simp only [State.foldScanRead]
  (repeat' split) <;> simp

/-! ### The link -/

@[simp] theorem State.endFrame_power (received : List Byte) (s : State) :
    (State.endFrame received s).power = s.power := by
  simp only [State.endFrame]
  split <;> simp

@[simp] theorem State.takeNextEvent_power (s : State) :
    (State.takeNextEvent s).power = s.power := by
  unfold State.takeNextEvent
  split <;> simp

@[simp] theorem State.takeAbortGroup_power (s : State) :
    (State.takeAbortGroup s).power = s.power := by
  unfold State.takeAbortGroup
  (repeat' split) <;> simp

@[simp] theorem State.takeSetMask_power (mask : Word) (s : State) :
    (State.takeSetMask mask s).power = s.power := by
  unfold State.takeSetMask
  split <;> simp

@[simp] theorem State.takeCopyRead_power (i : Instr) (copy : List Word) (o n : Byte) (s : State) :
    (State.takeCopyRead i copy o n s).power = s.power := by
  unfold State.takeCopyRead
  (repeat' split) <;> simp

@[simp] theorem State.takeStage_power (o n : Byte) (ws : List Word) (s : State) :
    (State.takeStage o n ws s).power = s.power := by
  unfold State.takeStage
  (repeat' split) <;> simp

@[simp] theorem State.takeCopyLive_power (s : State) :
    (State.takeCopyLive s).power = s.power := by
  unfold State.takeCopyLive
  split <;> simp

@[simp] theorem State.takeReadJournal_power (o : Word) (n : Byte) (s : State) :
    (State.takeReadJournal o n s).power = s.power := by
  simp only [State.takeReadJournal]
  (repeat' split) <;> simp

/-! ### The group controller -/

@[simp] theorem State.takeRise_power (s : State) :
    (State.takeRise s).power = s.power := by
  unfold State.takeRise
  (repeat' split) <;> simp

@[simp] theorem State.takeFall_power (s : State) :
    (State.takeFall s).power = s.power := by
  unfold State.takeFall
  (repeat' split) <;> simp

/-! ## The power condition and rest -/

section
variable {s t : State}

/-- From `s` to `t` supply, RST and PFAIL stay, and the power condition is NORMAL in both or in
neither. -/
def State.keepsSupply (s t : State) : Prop :=
  t.lines.powered = s.lines.powered ∧ t.lines.rst = s.lines.rst ∧
    t.lines.pfail = s.lines.pfail ∧ (t.power = .normal ↔ s.power = .normal)

/-- The frame lemmas of an operation say that it keeps the supply. -/
theorem State.keepsSupply.of_frame (hlines : t.lines = s.lines) (hpower : t.power = s.power) :
    s.keepsSupply t := by
  simp [State.keepsSupply, hlines, hpower]

theorem State.keepsSupply.ite {c : Prop} {_ : Decidable c} {a b : State} (ha : s.keepsSupply a)
    (hb : s.keepsSupply b) : s.keepsSupply (if c then a else b) := by
  split
  · exact ha
  · exact hb

/-- What the claim asks of a step from `s` to `t`. -/
def State.keepsRest (s t : State) : Prop :=
  s.restsUnderReset → s.powerSound → t.restsUnderReset ∧ t.powerSound

theorem State.keepsRest.refl (s : State) : s.keepsRest s := fun hrest hpower => ⟨hrest, hpower⟩

theorem State.keepsRest.ite {c : Prop} {_ : Decidable c} {a b : State}
    (ha : c → s.keepsRest a) (hb : ¬ c → s.keepsRest b) : s.keepsRest (if c then a else b) := by
  split
  · exact ha ‹_›
  · exact hb ‹_›

/-- With RST deasserted nothing is asked of rest. -/
theorem State.restsUnderReset_of_released (h : s.lines.rst = false) : s.restsUnderReset := by
  intro _ hrst
  simp [h] at hrst

/-- The reset values are at rest (R145). -/
theorem State.restsUnderReset_cleared (s : State) : (State.cleared s).restsUnderReset :=
  fun _ _ => ⟨rfl, rfl, rfl, rfl, rfl⟩

/-- At rest under RST no memory work is pending (R124). -/
theorem State.workPending_of_rest (h : s.restsUnderReset) (hpow : s.lines.powered = true)
    (hrst : s.lines.rst = true) : s.workPending = false := by
  obtain ⟨hflight, hrequests, hqueue, haccess, hstate⟩ := h hpow hrst
  simp [← Bool.not_eq_true, State.workPending_iff, State.quiet_iff, State.stateWorks_iff,
    State.accessIs_iff, hflight, hrequests, hqueue, haccess, hstate, hrst]

/-- NORMAL with PFAIL deasserted (R123). -/
theorem State.powerSound_of_normal (hpfail : s.lines.pfail = false) (hpower : s.power = .normal) :
    s.powerSound := by
  simp [State.powerSound, hpfail, hpower]

/-- NORMAL without power (log entry 25). -/
theorem State.powerSound_of_unpowered (hpow : s.lines.powered = false)
    (hpower : s.power = .normal) : s.powerSound := by
  simp [State.powerSound, hpow, hpower]

/-- RST moved without power: the condition stays NORMAL. -/
theorem State.powerSound.setRst (h : s.powerSound) (hpow : ¬ s.lines.powered = true) (rst : Bool) :
    State.powerSound { s with lines.rst := rst } := by
  obtain ⟨-, -, hnormal⟩ := h
  have hoff : s.lines.powered = false := by simpa using hpow
  exact State.powerSound_of_unpowered hoff (hnormal hoff)

/-- The condition of a bridge at rest: SAFE or NORMAL by PFAIL, NORMAL without power (R124). -/
theorem State.powerSound_of_rest (h : s.restsUnderReset)
    (hrst : s.lines.powered = true → s.lines.rst = true)
    (hpower : s.power = restCondition s.lines.powered s.lines.pfail) : s.powerSound := by
  cases hpow : s.lines.powered with
  | false => exact State.powerSound_of_unpowered hpow (by simp [hpower, hpow, restCondition])
  | true =>
    have hwork := State.workPending_of_rest h hpow (hrst hpow)
    cases hpfail : s.lines.pfail <;>
      simp [State.powerSound, hpower, hpow, hpfail, hwork, restCondition]

/-- DRAINING while memory work is pending, and otherwise SAFE, under PFAIL (R116). -/
theorem State.powerSound_of_pfail (hpow : s.lines.powered = true) (hpfail : s.lines.pfail = true)
    (hpower : s.power = if s.workPending then .draining else .safe) : s.powerSound := by
  cases hwork : s.workPending <;> simp [State.powerSound, hpower, hpow, hpfail, hwork]

/-- The finish leaves SAFE when memory work is pending (R122): what is left to ask is that the
condition follows PFAIL. -/
theorem State.powerSound_finish (hpow : s.lines.powered = true)
    (hnormal : s.power = .normal ↔ s.lines.pfail = false) : (State.finish s).powerSound := by
  rcases State.finish_cases s with ⟨hsafe, -, heq⟩ | ⟨hwork, heq⟩
  · have hpfail : s.lines.pfail = true := by simpa [hsafe] using hnormal
    rw [heq]
    simp [State.powerSound, hpow, hpfail]
  · rw [heq]
    refine ⟨fun hsafe => ⟨hpow, by simpa [hsafe] using hnormal, hwork hsafe⟩, fun _ => hnormal, ?_⟩
    simp [hpow]

/-- What a running bridge goes on with under the same supply, finished. -/
theorem State.keepsSupply.finish (h : s.keepsSupply t) (hrun : s.running = true) :
    s.keepsRest (State.finish t) := by
  obtain ⟨hpow, hrst, hpfail, hnormal⟩ := h
  obtain ⟨hon, hreleased⟩ := s.running_iff.mp hrun
  rintro - ⟨-, hsound, -⟩
  refine ⟨State.restsUnderReset_of_released (by simp [hrst, hreleased]),
    State.powerSound_finish (hpow.trans hon) ?_⟩
  rw [hnormal, hpfail]
  exact hsound hon

/-- Start-up: recovery is memory work, so PFAIL gives DRAINING (R100, R124). -/
theorem State.keepsRest_startUp (straps : BitVec 2) {u : State} (hpow : u.lines.powered = true)
    (hrst : u.lines.rst = false) : s.keepsRest (State.startUp straps u) := by
  rw [State.startUp_eq]
  refine fun _ _ => ⟨State.restsUnderReset_of_released hrst, ?_⟩
  cases hpfail : u.lines.pfail <;> simp [State.powerSound, hpow, hpfail]

/-- Everything at its reset values, under RST or without power. -/
theorem State.keepsRest_cleared {u : State} (hrst : u.lines.powered = true → u.lines.rst = true) :
    s.keepsRest (State.cleared u) :=
  fun _ _ => ⟨State.restsUnderReset_cleared u,
    State.powerSound_of_rest (State.restsUnderReset_cleared u) hrst rfl⟩

/-! ## The forms a meaning has -/

theorem State.keepsRest_of_next {s' : State}
    (he : (Host.Outcome.next s' : Host.Outcome State Fault Refusal) = .next t)
    (h : s.keepsRest s') : s.keepsRest t := by
  obtain rfl := Host.Outcome.next.inj he
  exact h

theorem State.outside_keepsRest {f : State → State} (he : State.outside f s = .next t)
    (hf : ∀ s : State, s.keepsSupply (f s)) : s.keepsRest t := by
  obtain rfl := State.outside_eq_next.mp he
  refine .ite (fun hrun => ?_) fun _ => .refl s
  have hkeep := hf (State.settle s)
  simp only [State.keepsSupply, State.settle_frame] at hkeep
  exact State.keepsSupply.finish hkeep hrun

theorem State.within_keepsRest {f : State → State} (he : State.within f s = .next t)
    (hf : ∀ s : State, s.keepsSupply (f s)) : s.keepsRest t := by
  obtain rfl := State.within_eq_next.mp he
  exact .ite (fun hrun => (hf s).finish hrun) fun _ => .refl s

/-- A command of the link: nothing outside an awaiting frame. -/
theorem State.link_keepsRest {f : State → State}
    (he : State.outside (State.inFrame f) s = .next t)
    (hf : ∀ s : State, s.keepsSupply (f s)) : s.keepsRest t := by
  refine State.outside_keepsRest he fun s => ?_
  rcases State.inFrame_cases f s with heq | heq
  · rw [heq]
    exact hf s
  · rw [heq]
    exact .of_frame rfl rfl

/-- A completion: its owner goes on with the port free, or nothing completes. -/
theorem State.completion_keepsRest {p : Purpose} {after : Transfer → List Word → State → State}
    (he : State.outside (State.complete p after) s = .next t)
    (hafter : ∀ tr ws (s : State), s.keepsSupply (after tr ws s)) : s.keepsRest t := by
  refine State.outside_keepsRest he fun s => ?_
  rcases State.complete_cases p after s with ⟨tr, -, -, heq⟩ | ⟨-, heq⟩
  · rw [heq]
    exact hafter _ _ _
  · rw [heq]
    exact .of_frame rfl rfl

/-- The end of a frame moves LSEL alone of the lines (R164). -/
theorem State.keepsSupply_endFrame (received : List Byte) (s : State) :
    s.keepsSupply (State.endFrame received s) := by
  simp only [State.endFrame]
  split <;> simp [State.keepsSupply]

/-! ## The commands -/

/-- PFAIL asserted: by the memory work that is pending, or, at rest, at once SAFE (R116, R124). -/
theorem execPfailAssertion_keepsRest (he : exec .pfailAssertion s = .next t) : s.keepsRest t := by
  refine State.keepsRest_of_next he (.ite (fun _ => .refl s) fun _ => .ite (fun hrun => ?_)
    fun hstop => ?_)
  · obtain ⟨hpow, hrst⟩ := s.running_iff.mp hrun
    exact fun _ _ => ⟨State.restsUnderReset_of_released (by simp [hrst]),
      State.powerSound_of_pfail (by simp [hpow]) (by simp) rfl⟩
  · have hrest (hpow : s.lines.powered = true) : s.lines.rst = true := by
      simpa [s.running_iff, hpow] using hstop
    exact fun h _ => ⟨h, State.powerSound_of_rest h hrest rfl⟩

/-- PFAIL deasserted: NORMAL (R123). -/
theorem execPfailDeassertion_keepsRest (he : exec .pfailDeassertion s = .next t) :
    s.keepsRest t := by
  refine State.keepsRest_of_next he (.ite (fun _ h _ => ⟨?_, State.powerSound_of_normal rfl rfl⟩)
    fun _ => .refl s)
  split
  · obtain ⟨-, hrst⟩ := s.running_iff.mp ‹_›
    exact State.restsUnderReset_of_released (by simp [hrst])
  · exact h

/-- The commands of the supply and of the lines. -/
theorem exec_keepsRest_of_lineEvent {c : Instr} (hline : isLineEvent c = true)
    (he : exec c s = .next t) : s.keepsRest t := by
  cases c <;> simp only [isLineEvent, Bool.false_eq_true] at hline
  case powerOn straps =>
    exact State.keepsRest_of_next he (.ite (fun _ => .refl s) fun _ => .ite
      (fun hrst => State.keepsRest_cleared fun _ => hrst)
      fun hrst => State.keepsRest_startUp straps rfl (by simpa using hrst))
  case powerLoss =>
    exact State.keepsRest_of_next he (.ite (fun _ => State.keepsRest_cleared nofun)
      fun _ => .refl s)
  case rstAssertion =>
    exact State.keepsRest_of_next he (.ite (fun _ => .refl s) fun _ => .ite
      (fun _ => State.keepsRest_cleared fun _ => rfl)
      fun hpow _ hpower => ⟨fun hon => absurd hon hpow, hpower.setRst hpow true⟩)
  case rstRelease straps =>
    exact State.keepsRest_of_next he (.ite (fun _ => .ite
      (fun hpow => State.keepsRest_startUp straps hpow rfl)
      fun hpow _ hpower => ⟨State.restsUnderReset_of_released rfl, hpower.setRst hpow false⟩)
      fun _ => .refl s)
  case pfailAssertion => exact execPfailAssertion_keepsRest he
  case pfailDeassertion => exact execPfailDeassertion_keepsRest he
  case grpRise | lselAssertion =>
    simp only [exec, execGrpRise, execLselAssertion] at he
    split at he
    · exact State.keepsRest_of_next he (.refl s)
    · split at he
      · exact State.outside_keepsRest he fun s => by simp [State.keepsSupply]
      · exact State.keepsRest_of_next he (.refl s)
  case grpFall =>
    simp only [exec, execGrpFall] at he
    split at he
    · split at he
      · exact State.outside_keepsRest he fun s => by simp [State.keepsSupply]
      · exact State.keepsRest_of_next he (.refl s)
    · exact State.keepsRest_of_next he (.refl s)
  case lselDeassertion bits =>
    simp only [exec, execLselDeassertion] at he
    split at he
    · split at he
      · exact State.outside_keepsRest he (State.keepsSupply_endFrame (bytesOfBits bits))
      · exact State.keepsRest_of_next he (.refl s)
    · exact State.keepsRest_of_next he (.refl s)

/-- The commands of the link. -/
theorem exec_keepsRest_of_linkPart {c : Instr} (hlink : Instr.isLinkPart c = true)
    (he : exec c s = .next t) : s.keepsRest t := by
  cases c
  case stage | unknownCommand | badCheckFrame =>
    exact State.link_keepsRest he fun s =>
      .ite (.of_frame (by simp) (by simp)) (.of_frame (by simp) (by simp))
  case status | nextEvent | abortGroup | setMask | readLive | readStage | copyLiveToStage |
      storeAnchor | format | readJournal | scanRegion =>
    exact State.link_keepsRest he fun s => .of_frame (by simp) (by simp)
  all_goals exact absurd (show false = true from hlink) Bool.false_ne_true

/-- The completions: the owner of the transfer goes on. -/
theorem exec_keepsRest_of_completion {c : Instr} (hc : ∃ p, c = Purpose.completion p)
    (he : exec c s = .next t) : s.keepsRest t := by
  obtain ⟨p, rfl⟩ := hc
  cases p <;> simp only [Purpose.completion] at he
  case anchorLoad => exact State.outside_keepsRest he fun s => .of_frame (by simp) (by simp)
  case linkRead | recoveryRewrite | wipeHeader | openingHeader | openRecord | commitRecord |
      commitHeader | dataWrite =>
    exact State.completion_keepsRest he fun _ _ s => .of_frame (by simp) (by simp)
  case restoreWrite =>
    refine State.completion_keepsRest he fun _ _ s => ?_
    split
    · exact .ite (.of_frame (by simp) (by simp)) (.of_frame (by simp) (by simp))
    · exact .of_frame rfl rfl
  all_goals
    refine State.completion_keepsRest he fun _ _ s => ?_
    (repeat' split) <;> exact .of_frame (by simp) (by simp)

/-- SAFE entered from DRAINING: the condition is not NORMAL before or after (R121). -/
theorem State.keepsSupply_safeEntry (s : State) :
    s.keepsSupply (if s.lines.pfail && s.power == .draining && !s.workPending then
      { s with power := .safe } else s) := by
  split
  · simp_all [State.keepsSupply]
  · exact .of_frame rfl rfl

theorem exec_keepsRest {c : Instr} (he : exec c s = .next t) : s.keepsRest t := by
  cases c
  case safeEntry =>
    simp only [exec, execSafeEntry] at he
    exact State.within_keepsRest he State.keepsSupply_safeEntry
  case ageTimeout | duePeriodicScanStart =>
    exact State.within_keepsRest he fun s => .of_frame (by simp) (by simp)
  case hostDataPhase => exact State.outside_keepsRest he fun s => .of_frame (by simp) (by simp)
  case tick | hostAddressPhase =>
    simp only [exec, execTick, execHostAddressPhase] at he
    exact State.outside_keepsRest he fun s =>
      .ite (.of_frame (by simp) (by simp)) (.of_frame rfl rfl)
  case scanIntervalExpiry | heldAccessRelease | waitingWriteTakesPlace | queuedReadProceeds |
      forwardWorkStart | storeWorkStart | backwardActivityStart =>
    simp only [exec, execScanIntervalExpiry, execHeldAccessRelease, execWaitingWriteTakesPlace,
      execQueuedReadProceeds, execForwardWorkStart, execStoreWorkStart,
      execBackwardActivityStart] at he
    refine State.within_keepsRest he fun s => ?_
    (repeat' split) <;> exact .of_frame (by simp) (by simp)
  case powerOn | powerLoss | rstAssertion | rstRelease | grpRise | grpFall | pfailAssertion |
      pfailDeassertion | lselAssertion | lselDeassertion =>
    exact exec_keepsRest_of_lineEvent rfl he
  case status | nextEvent | abortGroup | setMask | readLive | readStage | stage | copyLiveToStage |
      storeAnchor | format | readJournal | scanRegion | unknownCommand | badCheckFrame =>
    exact exec_keepsRest_of_linkPart rfl he
  all_goals exact exec_keepsRest_of_completion (eq_completion_of_isCompletion rfl) he

end

/-- Settles O15: a running bridge acts under one supply, and the finish leaves SAFE; the commands of
the supply and of the lines set the condition by PFAIL and by what is pending. -/
theorem restAndPowerKept : Obligations.RestAndPowerKept := by
  intro s t hrest hpower he
  rw [step_eq] at he
  split at he
  · exact exec_keepsRest he hrest hpower
  · exact State.outside_keepsRest he (fun s => .of_frame rfl rfl) hrest hpower

end Sys2Proof.Machine

/-! # Proofs: the classification of an access (O28) -/

namespace Sys2Proof.Machine

section
variable {a : Access} {s : State}

theorem Access.crosses_iff (a : Access) :
    a.crosses = true ↔ 4 < a.addr.toNat / 2 % 4 + a.lanes.length := by
  simp [Access.crosses]

/-- The whole bus is held: step 3 of R130. -/
theorem State.verdict_of_busHold (hpfail : s.lines.pfail = false)
    (hfits : a.addr.toNat / 2 % 4 + a.lanes.length ≤ 4)
    (hhold : s.group.state = .configuring ∨
      (s.group.state = .recovering ∧ s.anchor.isLive = false)) :
    State.verdict a s = .hold := by
  have hcross : ¬ a.crosses = true := by rw [Access.crosses_iff]; omega
  simp [State.verdict, hpfail, hcross, hhold]

/-- Past steps 1 to 3 of R130 the lookup decides. -/
theorem State.verdict_of_lookup (hpfail : s.lines.pfail = false)
    (hfits : a.addr.toNat / 2 % 4 + a.lanes.length ≤ 4)
    (hconf : s.group.state ≠ .configuring)
    (hlive : s.group.state = .recovering → s.anchor.isLive = true) :
    State.verdict a s = lookupVerdict s.group.state (s.lookup (Access.block a)) a.write := by
  have hcross : ¬ a.crosses = true := by rw [Access.crosses_iff]; omega
  have hfree : ¬ (s.group.state = .recovering ∧ s.anchor.isLive = false) :=
    fun ⟨hrec, hnot⟩ => by simp [hlive hrec] at hnot
  simp [State.verdict, hpfail, hcross, hconf, hfree]

/-- The rows JOURNAL and STRICT of the table are one but for a write in IDLE (R131, R112). -/
theorem tableVerdict_of_journaled {attr : Attr} (h : attr = .journal ∨ attr = .strict)
    (g : GroupState) (write : Bool) :
    tableVerdict g attr write =
      if write then journaledWrite (attr = .strict) g else journaledRead g := by
  rcases h with rfl | rfl <;> cases write <;> rfl

end

/-- Settles O28: the steps of R130 in their order, and past them the rows of the lookup. -/
theorem classification : Obligations.Classification := by
  refine ⟨fun a s => ⟨fun hpfail => ?_, fun hpfail => ⟨fun hcross => ?_, fun hfits =>
      ⟨State.verdict_of_busHold hpfail hfits, fun hconf hlive => ?_⟩⟩⟩,
    fun a s attr i hpfail hfits hconf hlive hlookup => ?_⟩
  · simp [State.verdict, hpfail]
  · simp [State.verdict, hpfail, (Access.crosses_iff a).mpr hcross]
  · rw [State.verdict_of_lookup hpfail hfits hconf hlive]
    refine ⟨fun h => ?_, fun h => ?_, fun h => ?_⟩
    all_goals rw [h]; rfl
  · rw [State.verdict_of_lookup hpfail hfits hconf hlive, hlookup, lookupVerdict]
    refine ⟨?_, ?_, fun hattr => ?_⟩
    · rintro rfl
      cases a.write <;> rfl
    · rintro rfl
      cases a.write <;> rfl
    · rw [tableVerdict_of_journaled hattr]
      cases s.group.state <;> cases a.write <;> simp [journaledRead, journaledWrite]

end Sys2Proof.Machine

/-! # Proofs: the walk of recovery (O54) -/

namespace Sys2Proof.Machine

section
variable {s : State} {h : Header}

/-- The run has no closing record, and an image names a forbidden block (R109). -/
theorem State.runOpen_of_forbidden {blocks : List Nat} {k : Nat}
    (hk : firstForbidden s.anchor.live blocks = some k) :
    State.runOpen blocks s = State.haltJournal .image (12 + 8 * k) s := by
  simp only [State.runOpen, hk, imageOffset]

/-- The run has no closing record: its images are undone (R110). -/
theorem State.runOpen_of_allowed {blocks : List Nat} (hheader : s.journal.header = some h)
    (hk : firstForbidden s.anchor.live blocks = none) :
    State.runOpen blocks s = State.startRollback h.group .recovery blocks.length s := by
  simp only [State.runOpen, hk, State.groupNumber_of_header hheader]

/-- A rollback of no images asks for the UNDONE record at once; the next offset is the model's
choice (log entry 27). -/
theorem State.startRollback_zero (g : Nat) (cause : Cause) (s : State) :
    State.startRollback g cause 0 s =
      State.requestUndone
        { group := g, cause := cause, total := 0, next := 12, restored := 0 } s := rfl

theorem State.runClosed_of_header (hheader : s.journal.header = some h) (walkEnd : Nat) :
    State.runClosed walkEnd s =
      if h.highWater < walkEnd then
        { s with journal.backward := .idle, journal.handed := some (.recoveryRewrite walkEnd) }
      else State.finishRecovery s := by
  rw [State.runClosed, State.highWater_of_header hheader]

/-- Where the walk goes from a position, by the record found there (R106, R107). -/
def State.walkFrom (position : Nat) (blocks : List Nat) (ws : List Word) (s : State) :
    Option RecordKind → State
  | none => State.walkStops position blocks s
  | some .opened => State.walkOn (position + 4) blocks s
  | some .image => State.walkOn (position + 8) (blocks ++ [imageRecordBlock ws]) s
  | some .commit => State.runClosed (position + 4) s
  | some .undone => State.runClosed (position + 4) s

theorem exec_walkReadComplete {t : Transfer} {s0 : State} {p : Nat} {bs : List Nat}
    (hc : s.completes .walkRead t s0) (hwalk : s0.journal.backward = .walk p bs)
    (hheader : s0.journal.header = some h) :
    exec .walkReadComplete s = .next (State.finish
      (State.walkFrom p bs (Transfer.wordsRead t s0.mem) (State.completed t s0)
        (walkRecord (journalWords s0.anchor.live) h.group p bs.length
          (Transfer.wordsRead t s0.mem)))) := by
  refine State.completion_eq hc ?_
  simp only [State.completed_journal, hwalk]
  rw [State.groupNumber_of_header (s := State.completed t s0) hheader]
  rfl

end

/-- Settles O54: by the record found, and at the end of a run without a closing record by the images
found. -/
theorem walkAdvances : Obligations.WalkAdvances := by
  intro t p bs h s s0 hc hwalk hheader ws len base c idle undo on closed
  have hheader' : c.journal.header = some h := hheader
  have hundo (blocks : List Nat) : State.runOpen blocks c = undo blocks := by
    simp only [undo]
    cases hk : firstForbidden s0.anchor.live blocks with
    | some k => exact State.runOpen_of_forbidden hk
    | none =>
      rw [State.runOpen_of_allowed hheader' hk]
      by_cases hempty : blocks.length = 0
      · rw [hempty, State.startRollback_zero]
        rfl
      · rw [State.startRollback_of_pos (Nat.pos_of_ne_zero hempty), if_neg hempty]
        rfl
  have hon (q : Nat) (blocks : List Nat) : State.walkOn q blocks c = on q blocks := by
    rw [State.walkOn, hundo]
    rfl
  have hclosed : State.runClosed (p + 4) c = closed := State.runClosed_of_header hheader' _
  refine (exec_walkReadComplete hc hwalk hheader).trans
    (congrArg (Host.Outcome.next ∘ State.finish) ?_)
  change State.walkFrom p bs ws c (walkRecord len h.group p bs.length ws) = _
  cases walkRecord len h.group p bs.length ws with
  | none =>
    rw [State.walkFrom, State.walkStops, hundo]
    rfl
  | some kind =>
    cases kind with
    | opened | image => exact hon _ _
    | commit | undone => exact hclosed

end Sys2Proof.Machine

/-! # Proofs: a scan on request (O42) -/

namespace Sys2Proof.Machine

section
variable {s : State}

/-- The states in which the scanner is idle (R149, the first row of R154). -/
theorem GroupState.scannerWorks_eq_false_iff (g : GroupState) :
    g.scannerWorks = false ↔
      g = .recovering ∨ g = .unconfigured ∨ g = .halted ∨ g = .configuring := by
  cases g <;> simp [GroupState.scannerWorks]

/-- What the first three rows of R154 turn away. -/
theorem State.refusesScan_iff (s : State) :
    (!GroupState.scannerWorks s.group.state || s.lines.pfail || s.scanner.scan != .none) = true ↔
      s.group.state.scannerWorks = false ∨ s.lines.pfail = true ∨ s.scanner.scan ≠ .none := by
  simp [or_assoc]

/-- The scanner idle, PFAIL asserted or a scan in progress (the first three rows of R154). -/
theorem State.takeScanRegion_of_busy (index : Byte)
    (h : s.group.state.scannerWorks = false ∨ s.lines.pfail = true ∨ s.scanner.scan ≠ .none) :
    State.takeScanRegion index s = State.answer (.scanRegion index) .busy [] s := by
  rw [State.takeScanRegion, if_pos (s.refusesScan_iff.mpr h)]

/-- A free scanner answers by the index and by the attribute of its entry (the last three rows of
R154). -/
theorem State.takeScanRegion_of_free (index : Byte)
    (h : ¬ (s.group.state.scannerWorks = false ∨ s.lines.pfail = true ∨
      s.scanner.scan ≠ .none)) :
    State.takeScanRegion index s =
      if 7 < index.toNat then State.answerInvalid (.scanRegion index) .regionIndex s
      else if regionAttr s.anchor.live index.toNat = .none then
        State.answerInvalid (.scanRegion index) .regionUnused s
      else State.answer (.scanRegion index) .started []
        (State.startScan .onRequest index.toNat s) := by
  rw [State.takeScanRegion, if_neg (mt s.refusesScan_iff.mp h)]

end

/-- Settles O42: the three BUSY rows one after another, then the rows of a free scanner. -/
theorem scanRegionEffect : Obligations.ScanRegionEffect := by
  intro i s s0 h hframe
  refine (State.link_of_closesTo h hframe _).trans
    (congrArg (Host.Outcome.next ∘ State.finish) ?_)
  simp only [← GroupState.scannerWorks_eq_false_iff]
  by_cases hidle : s0.group.state.scannerWorks = false
  · rw [if_pos hidle, State.takeScanRegion_of_busy i (.inl hidle)]
  by_cases hpfail : s0.lines.pfail = true
  · rw [if_neg hidle, if_pos hpfail, State.takeScanRegion_of_busy i (.inr (.inl hpfail))]
  by_cases hscan : s0.scanner.scan ≠ .none
  · rw [if_neg hidle, if_neg hpfail, if_pos hscan,
      State.takeScanRegion_of_busy i (.inr (.inr hscan))]
  · rw [if_neg hidle, if_neg hpfail, if_neg hscan,
      State.takeScanRegion_of_free i (not_or.mpr ⟨hidle, not_or.mpr ⟨hpfail, hscan⟩⟩)]

end Sys2Proof.Machine

/-! # Proofs: the pending set, and the commands of the event unit (O20, O39)

What a raise leaves in the pending set is said kind by kind. The order of the set gives that a raise
finds the entry of its kind, and that the first entry is the one of highest priority. -/

namespace Sys2Proof.Machine


/-! ## Sound pending sets (R158) -/

/-- What `State.eventsSound` asks of the pending set. -/
def pendingSound (l : List PendingEvent) : Prop :=
  l.Pairwise (fun x y => Event.priority x.event < Event.priority y.event) ∧ ∀ p ∈ l, p.repeats ≤ 255

theorem State.eventsSound_iff (s : State) : s.eventsSound ↔ pendingSound s.events.pendingSet :=
  Iff.rfl

theorem pendingSound_nil : pendingSound [] := ⟨.nil, by simp⟩

theorem pendingSound_cons {p : PendingEvent} {rest : List PendingEvent} :
    pendingSound (p :: rest) ↔
      (∀ q ∈ rest, Event.priority p.event < Event.priority q.event) ∧ p.repeats ≤ 255 ∧
        pendingSound rest := by
  simp only [pendingSound, List.pairwise_cons, List.forall_mem_cons]
  tauto

/-! ## Raising (R159) -/

section
variable {e : Event} {p q : PendingEvent} {l rest : List PendingEvent}

/-- The kind raised has its place before the first entry. -/
theorem raiseIn_of_lt (h : Event.priority e < Event.priority p.event) :
    raiseIn e (p :: rest) = { event := e, repeats := 0 } :: p :: rest := if_pos h

/-- The kind raised is the first entry's. -/
theorem raiseIn_of_eq (h : Event.priority e = Event.priority p.event) :
    raiseIn e (p :: rest) =
      { event := Event.combine p.event e, repeats := min 255 (p.repeats + 1) } :: rest := by
  rw [raiseIn, if_neg h.not_lt, if_pos h]

/-- The kind raised comes after the first entry's. -/
theorem raiseIn_of_gt (h : Event.priority p.event < Event.priority e) :
    raiseIn e (p :: rest) = p :: raiseIn e rest := by
  rw [raiseIn, if_neg h.not_gt, if_neg h.ne']

/-- Every kind in the set after a raise stood before or is the one raised. -/
theorem priority_of_mem_raiseIn (h : q ∈ raiseIn e l) :
    (∃ x ∈ l, Event.priority q.event = Event.priority x.event) ∨
      Event.priority q.event = Event.priority e := by
  rcases mem_raiseIn h with hq | rfl | ⟨x, -, hx, rfl⟩
  · exact .inl ⟨q, hq, rfl⟩
  · exact .inr rfl
  · exact .inr ((Event.priority_combine _ _ hx).trans hx.symm)

/-- A raise keeps the set sound: the entry goes in at its kind's place, and the repeat count stops
at 255. -/
theorem pendingSound.raiseIn (h : pendingSound l) (e : Event) : pendingSound (raiseIn e l) := by
  induction l with
  | nil => exact pendingSound_cons.mpr ⟨by simp, by simp, pendingSound_nil⟩
  | cons p rest ih =>
    obtain ⟨hfirst, hrepeats, hrest⟩ := pendingSound_cons.mp h
    rcases lt_trichotomy (Event.priority e) (Event.priority p.event) with hlt | heq | hgt
    · rw [raiseIn_of_lt hlt]
      refine pendingSound_cons.mpr ⟨?_, Nat.zero_le _, h⟩
      exact List.forall_mem_cons.mpr ⟨hlt, fun q hq => hlt.trans (hfirst q hq)⟩
    · rw [raiseIn_of_eq heq]
      refine pendingSound_cons.mpr ⟨fun q hq => ?_, min_le_left _ _, hrest⟩
      rw [Event.priority_combine _ _ heq]
      exact hfirst q hq
    · rw [raiseIn_of_gt hgt]
      refine pendingSound_cons.mpr ⟨fun q hq => ?_, hrepeats, ih hrest⟩
      rcases priority_of_mem_raiseIn hq with ⟨x, hx, hqx⟩ | hqe
      · exact hqx ▸ hfirst x hx
      · exact hqe ▸ hgt

/-- The entries of other kinds stay. -/
theorem mem_raiseIn_iff_of_ne (hq : Event.priority q.event ≠ Event.priority e) :
    q ∈ raiseIn e l ↔ q ∈ l := by
  have hother (x : PendingEvent) (hx : Event.priority x.event = Event.priority e) : q ≠ x := by
    rintro rfl
    exact hq hx
  induction l with
  | nil => simp [raiseIn, hother]
  | cons p rest ih =>
    rcases lt_trichotomy (Event.priority e) (Event.priority p.event) with hlt | heq | hgt
    · rw [raiseIn_of_lt hlt, List.mem_cons, or_iff_right (hother _ rfl)]
    · have hcombined := (Event.priority_combine _ _ heq).trans heq.symm
      rw [raiseIn_of_eq heq, List.mem_cons, List.mem_cons, or_iff_right (hother _ hcombined),
        or_iff_right (hother _ heq.symm)]
    · rw [raiseIn_of_gt hgt, List.mem_cons, List.mem_cons]
      exact or_congr_right ih

/-- A kind that does not stand forms an entry with no repeats. -/
theorem mem_raiseIn_of_new (h : ∀ p ∈ l, Event.priority p.event ≠ Event.priority e) :
    { event := e, repeats := 0 } ∈ raiseIn e l := by
  induction l with
  | nil => exact .head _
  | cons p rest ih =>
    obtain ⟨hp, hrest⟩ := List.forall_mem_cons.mp h
    rcases hp.lt_or_gt with hgt | hlt
    · rw [raiseIn_of_gt hgt]
      exact .tail _ (ih hrest)
    · rw [raiseIn_of_lt hlt]
      exact .head _

/-- A kind that stands is combined with the occurrence: in a set in priority order the raise finds
its entry. -/
theorem mem_raiseIn_of_standing (h : pendingSound l) (hp : p ∈ l)
    (hkind : Event.priority p.event = Event.priority e) :
    { event := Event.combine p.event e, repeats := min 255 (p.repeats + 1) } ∈ raiseIn e l := by
  induction l with
  | nil => cases hp
  | cons x rest ih =>
    obtain ⟨hfirst, -, hrest⟩ := pendingSound_cons.mp h
    rcases List.mem_cons.mp hp with rfl | hp
    · rw [raiseIn_of_eq hkind.symm]
      exact .head _
    · rw [raiseIn_of_gt (hkind ▸ hfirst p hp)]
      exact .tail _ (ih hrest hp)

end

/-- Settles O20. -/
theorem raiseEvent : Obligations.RaiseEvent := by
  intro e s h
  rw [State.raise_eq]
  refine ⟨⟨_, rfl⟩, fun q hq => mem_raiseIn_iff_of_ne hq, mem_raiseIn_of_new, fun p hp hkind => ?_⟩
  exact mem_raiseIn_of_standing h hp hkind

/-! ## NEXT_EVENT and SET_MASK (R160, R161, R171) -/

section
variable {s s0 : State} {p : PendingEvent} {l rest : List PendingEvent}

/-- The entry of highest priority stands first, and the others are the rest. -/
theorem pendingSound.eq_cons_of_least (h : pendingSound l) (hp : p ∈ l)
    (hleast : ∀ q ∈ l, Event.priority p.event ≤ Event.priority q.event) :
    l = p :: l.filter (fun q => q != p) := by
  cases l with
  | nil => cases hp
  | cons x rest =>
    obtain ⟨hfirst, -, -⟩ := pendingSound_cons.mp h
    have hx : p = x := (List.mem_cons.mp hp).resolve_right fun hrest =>
      (hfirst p hrest).not_ge (hleast x (.head _))
    subst hx
    have hothers : ∀ q ∈ rest, (q != p) = true := fun q hq => by
      rw [bne_iff_ne]
      rintro rfl
      exact lt_irrefl _ (hfirst q hq)
    rw [List.filter_cons_of_neg (by simp), List.filter_eq_self.mpr hothers]

theorem State.takeNextEvent_of_nil (h : s.events.pendingSet = []) :
    State.takeNextEvent s = State.answer .nextEvent .none [] s := by
  simp only [State.takeNextEvent, h]

theorem State.takeNextEvent_of_cons (h : s.events.pendingSet = p :: rest) :
    State.takeNextEvent s =
      State.answer .nextEvent .ok p.record { s with events.pendingSet := rest } := by
  simp only [State.takeNextEvent, h]

theorem exec_nextEvent (h : s.closesTo s0) (hframe : s0.link.frame = .awaiting) :
    exec .nextEvent s = .next (State.finish (State.takeNextEvent s0)) :=
  State.link_of_closesTo h hframe _

theorem exec_setMask (h : s.closesTo s0) (hframe : s0.link.frame = .awaiting) (w : Word) :
    exec (.setMask w) s = .next (State.finish (State.takeSetMask w s0)) :=
  State.link_of_closesTo h hframe _

end

/-- Settles O39: the first entry of a sound set is the one of highest priority. -/
theorem eventCommands : Obligations.EventCommands := by
  refine ⟨⟨fun s s0 h hframe hnil => ?_, fun s s0 p h hframe hsound hp hleast => ?_⟩,
    fun e => ?_, fun w s s0 h hframe => ?_⟩
  · rw [exec_nextEvent h hframe, State.takeNextEvent_of_nil hnil]
  · rw [exec_nextEvent h hframe,
      State.takeNextEvent_of_cons (pendingSound.eq_cons_of_least hsound hp hleast)]
    rfl
  · cases e with
    | anchorInvalid reason => cases reason <;> rfl
    | journalUnreadable cause => cases cause <;> rfl
    | groupAborted _ cause => cases cause <;> rfl
    | accessRefused _ write reason => cases write <;> cases reason <;> rfl
    | recovered | journalFull | scanMismatch | scanDone | anchorStored | groupCommitted |
      linkError => rfl
  · rw [exec_setMask h hframe, State.takeSetMask, maskOf_eq]

end Sys2Proof.Machine

/-! # Proofs: every step keeps the pending set sound (O12)

From one state to the next events are raised (R159), the first entry is taken (R160) or the set is
emptied (R101), and each of these keeps a sound set sound. What is to show of the commands is that
nothing else touches the set. -/

namespace Sys2Proof.Machine

/-! ## Keeping the pending set sound -/

section
variable {s s' t : State}

/-- From `s` to `t` a sound pending set stays sound. -/
def State.keepsEvents (s t : State) : Prop := s.eventsSound → t.eventsSound

theorem State.keepsEvents.refl (s : State) : s.keepsEvents s := id

theorem State.keepsEvents.trans (h : s.keepsEvents s') (h' : s'.keepsEvents t) :
    s.keepsEvents t :=
  h' ∘ h

theorem State.keepsEvents.ite {c : Prop} {_ : Decidable c} {a b : State} (ha : s.keepsEvents a)
    (hb : s.keepsEvents b) : s.keepsEvents (if c then a else b) := by
  split
  · exact ha
  · exact hb

/-- The set stays; the frame lemmas of an operation say so. -/
theorem State.keepsEvents.of_eq (h : t.events.pendingSet = s.events.pendingSet) :
    s.keepsEvents t := by
  intro hs
  rw [State.eventsSound_iff, h]
  exact hs

theorem State.keepsEvents.leave (h : s.keepsEvents s')
    (heq : t.events.pendingSet = s'.events.pendingSet) : s.keepsEvents t :=
  h.trans (.of_eq heq)

theorem State.keepsEvents.raise (h : s.keepsEvents s') (e : Event) :
    s.keepsEvents (State.raise e s') :=
  fun hs => pendingSound.raiseIn (h hs) e

/-- At the reset values no event is pending (R101). -/
theorem State.keepsEvents.cleared (s s' : State) : s.keepsEvents (State.cleared s') :=
  fun _ => pendingSound_nil

theorem State.keepsEvents.startUp (s : State) (straps : BitVec 2) (s' : State) :
    s.keepsEvents (State.startUp straps s') := by
  rw [State.startUp_eq]
  exact fun _ => pendingSound_nil

/-! ## Operations that leave the event unit -/

/-! ### The host bus port -/

@[simp] theorem State.setPhase_events (a : Access) (p : AccessPhase) (s : State) :
    (State.setPhase a p s).events = s.events := rfl

@[simp] theorem State.requestHostRead_events (a : Access) (s : State) :
    (State.requestHostRead a s).events = s.events := by
  simp [State.requestHostRead]

@[simp] theorem State.formingPhase_events (a : Access) (p : Post) (d : Word) (s : State) :
    (State.formingPhase a p d s).events = s.events := by
  simp only [State.formingPhase]
  split <;> rfl

@[simp] theorem State.earlyPhase_events (a : Access) (s : State) :
    (State.earlyPhase a s).events = s.events := by
  simp only [State.earlyPhase]
  (repeat' split) <;> rfl

@[simp] theorem State.takeDataPhase_events (d : Word) (s : State) :
    (State.takeDataPhase d s).events = s.events := by
  unfold State.takeDataPhase
  split
  · rfl
  · rename_i a _
    cases a.phase with
    | forming post => exact State.formingPhase_events a post d s
    | readRequested => exact State.earlyPhase_events a s
    | _ => rfl

/-! ### The forward activity -/

@[simp] theorem State.requestDataWrite_events (e : Entry) (s : State) :
    (State.requestDataWrite e s).events = s.events := by
  simp [State.requestDataWrite]

@[simp] theorem State.takeHead_events (s : State) : (State.takeHead s).events = s.events := by
  unfold State.takeHead
  split
  · rfl
  · simp [State.beginRetire_eq]

@[simp] theorem State.requestFormat_events (k : Nat) (s : State) :
    (State.requestFormat k s).events = s.events := by
  simp [State.requestFormat]

@[simp] theorem State.wipeStep_events (next : Nat) (s : State) :
    (State.wipeStep next s).events = s.events := by
  simp only [State.wipeStep]
  split <;> simp

@[simp] theorem State.beginGroupWork_events (w : GroupWork) (s : State) :
    (State.beginGroupWork w s).events = s.events := by
  unfold State.beginGroupWork
  (repeat' split) <;> simp

@[simp] theorem State.requestOpeningHeader_events (s : State) :
    (State.requestOpeningHeader s).events = s.events := by
  simp [State.requestOpeningHeader]

@[simp] theorem State.leaveOpening_events (s : State) :
    (State.leaveOpening s).events = s.events := by
  simp only [State.leaveOpening]
  (repeat' split) <;> simp

@[simp] theorem State.leaveCommitting_events (s : State) :
    (State.leaveCommitting s).events = s.events := by
  unfold State.leaveCommitting
  split <;> simp

@[simp] theorem State.leaveRollback_events (s : State) :
    (State.leaveRollback s).events = s.events := by
  unfold State.leaveRollback
  split <;> simp

/-! ### Recovery and the scanner -/

@[simp] theorem State.requestWalk_events (position : Nat) (blocks : List Nat) (s : State) :
    (State.requestWalk position blocks s).events = s.events := by
  simp [State.requestWalk]

@[simp] theorem State.runClosed_events (walkEnd : Nat) (s : State) :
    (State.runClosed walkEnd s).events = s.events := by
  unfold State.runClosed
  split <;> simp

@[simp] theorem State.takeScanRegion_events (index : Byte) (s : State) :
    (State.takeScanRegion index s).events = s.events := by
  unfold State.takeScanRegion
  (repeat' split) <;> simp

@[simp] theorem State.takeExpiry_events (s : State) :
    (State.takeExpiry s).events = s.events := by
  unfold State.takeExpiry
  (repeat' split) <;> simp

/-! ### The work of CONFIGURING -/

@[simp] theorem State.enterConfiguring_events (job : ConfigJob) (s : State) :
    (State.enterConfiguring job s).events = s.events := by
  simp [State.enterConfiguring]

@[simp] theorem State.takeStoreAnchor_events (s : State) :
    (State.takeStoreAnchor s).events = s.events := by
  unfold State.takeStoreAnchor
  (repeat' split) <;> simp

@[simp] theorem State.takeFormat_events (s : State) : (State.takeFormat s).events = s.events := by
  unfold State.takeFormat
  split <;> simp

@[simp] theorem State.requestAnchorWrite_events (j : ConfigJob) (k : Nat) (s : State) :
    (State.requestAnchorWrite j k s).events = s.events := by
  simp [State.requestAnchorWrite, State.setStage]

@[simp] theorem State.beginAnchorWrite_events (j : ConfigJob) (s : State) :
    (State.beginAnchorWrite j s).events = s.events := by
  simp [State.beginAnchorWrite]

@[simp] theorem State.requestSlotClear_events (j : ConfigJob) (s : State) :
    (State.requestSlotClear j s).events = s.events := by
  simp [State.requestSlotClear, State.setStage]

/-! ### The link and the group controller -/

@[simp] theorem State.takeAbortGroup_events (s : State) :
    (State.takeAbortGroup s).events = s.events := by
  unfold State.takeAbortGroup
  (repeat' split) <;> simp

@[simp] theorem State.takeCopyRead_events (i : Instr) (copy : List Word) (o n : Byte) (s : State) :
    (State.takeCopyRead i copy o n s).events = s.events := by
  unfold State.takeCopyRead
  (repeat' split) <;> rfl

@[simp] theorem State.takeStage_events (o n : Byte) (ws : List Word) (s : State) :
    (State.takeStage o n ws s).events = s.events := by
  unfold State.takeStage
  (repeat' split) <;> rfl

@[simp] theorem State.takeCopyLive_events (s : State) :
    (State.takeCopyLive s).events = s.events := by
  unfold State.takeCopyLive
  split <;> rfl

@[simp] theorem State.takeReadJournal_events (o : Word) (n : Byte) (s : State) :
    (State.takeReadJournal o n s).events = s.events := by
  unfold State.takeReadJournal
  (repeat' split) <;> simp

@[simp] theorem State.takeRise_events (s : State) : (State.takeRise s).events = s.events := by
  unfold State.takeRise
  cases s.group.state <;> simp

@[simp] theorem State.takeFall_events (s : State) : (State.takeFall s).events = s.events := by
  unfold State.takeFall
  cases s.group.state <;> simp

/-! ## Operations that raise or take events -/

/-! ### Changes of the group state, which follow a raise -/

theorem State.keepsEvents.enterIdle (h : s.keepsEvents s') : s.keepsEvents (State.enterIdle s') :=
  h.leave (by simp)

theorem State.keepsEvents.finishRecovery (h : s.keepsEvents s') :
    s.keepsEvents (State.finishRecovery s') :=
  h.leave (by simp)

theorem State.keepsEvents.leaveCommitting (h : s.keepsEvents s') :
    s.keepsEvents (State.leaveCommitting s') :=
  h.leave (by simp)

theorem State.keepsEvents.leaveRollback (h : s.keepsEvents s') :
    s.keepsEvents (State.leaveRollback s') :=
  h.leave (by simp)

/-! ### The host bus port (R54, R133, R134) -/

theorem State.keepsEvents.refuseAccess (h : s.keepsEvents s') (r : RefusalReason) (a : Access) :
    s.keepsEvents (State.refuseAccess r a s') :=
  .raise (by exact h) _

theorem State.keepsEvents.powerFailAccess (h : s.keepsEvents s') :
    s.keepsEvents (State.powerFailAccess s') := by
  unfold State.powerFailAccess
  split
  · exact h
  · rename_i a _
    cases a.phase with
    | held | waiting => exact .refuseAccess (by exact h) .powerFail a
    | _ => exact h

/-- The assertion of PFAIL raises ACCESS_REFUSED at most (R118). -/
theorem State.keepsEvents.powerFailed (h : s.keepsEvents s') : s.keepsEvents s'.powerFailed := by
  obtain ⟨-, -, hevents⟩ := s'.powerFailed_refusal
  exact .leave (.powerFailAccess (by exact h)) (congrArg _ hevents)

theorem State.keepsEvents.reserve (h : s.keepsEvents s') (a : Access) :
    s.keepsEvents (State.reserve a s') :=
  .ite h (.ite (.raise (by exact h) _) h)

theorem State.keepsEvents.classify (h : s.keepsEvents s') (a : Access) :
    s.keepsEvents (State.classify a s') := by
  unfold State.classify
  cases State.verdict a s' with
  | refuse reason => exact h.refuseAccess reason a
  | hold => exact h
  | serve => exact .ite h (h.leave (by simp))
  | postPlain => exact .ite h h
  | postGroup => exact .ite h (h.reserve a)

/-! ### The link (R160, R168) -/

theorem State.keepsEvents.takeNextEvent (h : s.keepsEvents s') :
    s.keepsEvents (State.takeNextEvent s') := by
  cases hset : s'.events.pendingSet with
  | nil =>
    rw [State.takeNextEvent_of_nil hset]
    exact h
  | cons p rest =>
    rw [State.takeNextEvent_of_cons hset]
    intro hs
    have hsound := s'.eventsSound_iff.mp (h hs)
    rw [hset] at hsound
    obtain ⟨-, -, hrest⟩ := pendingSound_cons.mp hsound
    exact hrest

theorem State.keepsEvents.endFrame (h : s.keepsEvents s') (received : List Byte) :
    s.keepsEvents (State.endFrame received s') :=
  .ite (.raise (by exact h) _) h

/-! ### Start-up and recovery (R88, R104, R109) -/

theorem State.keepsEvents.haltJournal (h : s.keepsEvents s') (cause : UnreadableCause)
    (offset : Nat) : s.keepsEvents (State.haltJournal cause offset s') :=
  .raise (h.leave (t := State.idleScanner s') (by simp)) (.journalUnreadable cause offset)

theorem State.keepsEvents.endAnchorLoad (h : s.keepsEvents s') :
    s.keepsEvents (State.endAnchorLoad s') := by
  cases hfault : anchorFault s'.anchor.live with
  | none =>
    rw [State.endAnchorLoad_of_valid hfault]
    exact h.leave (by simp)
  | some reason =>
    rw [State.endAnchorLoad_of_fault hfault]
    exact h.raise (.anchorInvalid reason)

theorem State.keepsEvents.loadReads (h : s.keepsEvents s') (reads : Nat) :
    s.keepsEvents (State.loadReads reads s') := by
  induction reads generalizing s' with
  | zero => exact h
  | succ reads ih =>
    rw [State.loadReads]
    split
    · split
      · exact .ite (ih (h.leave (by simp))) (.endAnchorLoad (by exact h))
      · exact h
    · exact h

theorem State.keepsEvents.runOpen (h : s.keepsEvents s') (blocks : List Nat) :
    s.keepsEvents (State.runOpen blocks s') := by
  unfold State.runOpen
  split
  · exact h.haltJournal _ _
  · exact h.leave (by simp)

theorem State.keepsEvents.walkStops (h : s.keepsEvents s') (position : Nat) (blocks : List Nat) :
    s.keepsEvents (State.walkStops position blocks s') :=
  .ite (h.leave (by simp)) (h.runOpen blocks)

theorem State.keepsEvents.walkOn (h : s.keepsEvents s') (position : Nat) (blocks : List Nat) :
    s.keepsEvents (State.walkOn position blocks s') :=
  .ite (h.runOpen blocks) (h.leave (by simp))

/-! ### The scanner (R153, R155) -/

theorem State.keepsEvents.endPeriodicScan (h : s.keepsEvents s') :
    s.keepsEvents (State.endPeriodicScan s') :=
  .ite h (.raise (by exact h) _)

theorem State.keepsEvents.endRequestedScan (h : s.keepsEvents s') :
    s.keepsEvents (State.endRequestedScan s') :=
  .raise (by exact h) _

theorem State.keepsEvents.foldScanRead (h : s.keepsEvents s') (ws : List Word) :
    s.keepsEvents (State.foldScanRead ws s') := by
  unfold State.foldScanRead
  cases s'.scanner.scan with
  | none => exact h
  | periodic => exact .ite (.endPeriodicScan (by exact h)) (h.leave (by simp))
  | onRequest => exact .ite (.endRequestedScan (by exact h)) (h.leave (by simp))

/-! ### The work of CONFIGURING (R94, R97) -/

theorem State.keepsEvents.switchAnchor (h : s.keepsEvents s') (j : ConfigJob) :
    s.keepsEvents (State.switchAnchor j s') := by
  rw [State.switchAnchor_eq]
  exact .enterIdle (h.raise (.anchorStored j.formats))

theorem State.keepsEvents.endFormat (h : s.keepsEvents s') :
    s.keepsEvents (State.endFormat s') := by
  cases hj : s'.anchor.job with
  | none =>
    simp only [State.endFormat, hj]
    exact h
  | some j =>
    rw [State.endFormat_of_job hj]
    exact .ite (.switchAnchor (by exact h) j) (.enterIdle (.raise (by exact h) _))

/-! ## The forms a meaning has -/

theorem State.keepsEvents_of_next (he : (Host.Outcome.next s' : Host.Outcome State Fault Refusal) =
    .next t) (h : s.keepsEvents s') : s.keepsEvents t := by
  obtain rfl := Host.Outcome.next.inj he
  exact h

theorem State.keepsEvents.settle (h : s.keepsEvents s') : s.keepsEvents (State.settle s') :=
  h.leave (by simp)

theorem State.keepsEvents.finish (h : s.keepsEvents s') : s.keepsEvents (State.finish s') :=
  h.leave (by simp)

theorem State.outside_keepsEvents {f : State → State} (he : State.outside f s = .next t)
    (hf : ∀ s : State, s.keepsEvents (f s)) : s.keepsEvents t := by
  obtain rfl := State.outside_eq_next.mp he
  exact .ite (.finish (.trans (.settle (.refl s)) (hf _))) (.refl s)

theorem State.within_keepsEvents {f : State → State} (he : State.within f s = .next t)
    (hf : ∀ s : State, s.keepsEvents (f s)) : s.keepsEvents t := by
  obtain rfl := State.within_eq_next.mp he
  exact .ite (hf s).finish (.refl s)

/-- A command of the link: nothing outside an awaiting frame. -/
theorem State.link_keepsEvents {f : State → State}
    (he : State.outside (State.inFrame f) s = .next t)
    (hf : ∀ s : State, s.keepsEvents (f s)) : s.keepsEvents t :=
  State.outside_keepsEvents he fun s => .ite (hf s) (.refl s)

/-- A completion: its owner goes on with the port free, or nothing completes. -/
theorem State.completion_keepsEvents {p : Purpose} {after : Transfer → List Word → State → State}
    (he : State.outside (State.complete p after) s = .next t)
    (hafter : ∀ tr ws (s : State), s.keepsEvents (after tr ws s)) : s.keepsEvents t := by
  refine State.outside_keepsEvents he fun s => ?_
  rcases State.complete_cases p after s with ⟨tr, -, -, heq⟩ | ⟨-, heq⟩
  · rw [heq]
    exact hafter tr _ (State.completed tr s)
  · rw [heq]
    exact .refl s

/-! ## The commands -/

/-- The commands of the supply and of the lines. -/
theorem exec_keepsEvents_of_lineEvent {c : Instr} (hline : isLineEvent c = true)
    (he : exec c s = .next t) : s.keepsEvents t := by
  cases c <;> simp only [isLineEvent, Bool.false_eq_true] at hline
  case powerOn straps =>
    exact State.keepsEvents_of_next he (.ite (.refl s) (.ite (.cleared s _) (.startUp s straps _)))
  case powerLoss => exact State.keepsEvents_of_next he (.ite (.cleared s _) (.refl s))
  case rstAssertion =>
    exact State.keepsEvents_of_next he (.ite (.refl s) (.ite (.cleared s _) (.refl s)))
  case rstRelease straps =>
    exact State.keepsEvents_of_next he (.ite (.ite (.startUp s straps _) (.refl s)) (.refl s))
  case pfailAssertion =>
    have hfailed : s.keepsEvents (State.settle s).powerFailed := .powerFailed (.settle (.refl s))
    exact State.keepsEvents_of_next he (.ite (.refl s) (.ite (by exact hfailed) (.refl s)))
  case pfailDeassertion =>
    have hclosed : s.keepsEvents (if s.running then State.settle s else s) :=
      .ite (.settle (.refl s)) (.refl s)
    exact State.keepsEvents_of_next he (.ite (by exact hclosed) (.refl s))
  case grpRise | lselAssertion =>
    simp only [exec, execGrpRise, execLselAssertion] at he
    split at he
    · exact State.keepsEvents_of_next he (.refl s)
    · split at he
      · exact State.outside_keepsEvents he fun s => .of_eq (by simp)
      · exact State.keepsEvents_of_next he (.refl s)
  case grpFall =>
    simp only [exec, execGrpFall] at he
    split at he
    · split at he
      · exact State.outside_keepsEvents he fun s => .of_eq (by simp)
      · exact State.keepsEvents_of_next he (.refl s)
    · exact State.keepsEvents_of_next he (.refl s)
  case lselDeassertion bits =>
    simp only [exec, execLselDeassertion] at he
    split at he
    · split at he
      · exact State.outside_keepsEvents he fun s => .endFrame (.refl s) (bytesOfBits bits)
      · exact State.keepsEvents_of_next he (.refl s)
    · exact State.keepsEvents_of_next he (.refl s)

/-- The commands of the link: NEXT_EVENT takes the first entry, and a wrong check byte raises
LINK_ERROR (R160, R166). -/
theorem exec_keepsEvents_of_linkPart {c : Instr} (hlink : Instr.isLinkPart c = true)
    (he : exec c s = .next t) : s.keepsEvents t := by
  cases c
  case nextEvent => exact State.link_keepsEvents he fun s => .takeNextEvent (.refl s)
  case setMask => exact State.link_keepsEvents he fun s => .ite (.refl s) (.refl s)
  case badCheckFrame =>
    exact State.link_keepsEvents he fun s => .ite (.raise (by exact .refl s) _) (.refl s)
  case stage | unknownCommand =>
    exact State.link_keepsEvents he fun s => .ite (.of_eq (by simp)) (.of_eq (by simp))
  case status | abortGroup | readLive | readStage | copyLiveToStage | storeAnchor | format |
      readJournal | scanRegion => exact State.link_keepsEvents he fun s => .of_eq (by simp)
  all_goals exact absurd (show false = true from hlink) Bool.false_ne_true

/-- The completions: each leaves the set or raises the event its owner reports. -/
theorem exec_keepsEvents_of_completion {c : Instr} (hc : ∃ p, c = Purpose.completion p)
    (he : exec c s = .next t) : s.keepsEvents t := by
  obtain ⟨p, rfl⟩ := hc
  cases p <;> simp only [Purpose.completion] at he
  case anchorLoad => exact State.outside_keepsEvents he fun s => .loadReads (.refl s) 6
  case slotsRead =>
    refine State.completion_keepsEvents he fun _ _ s => ?_
    split
    · exact .haltJournal (.refl s) _ _
    · exact .ite (.of_eq (by simp)) (.of_eq (by simp))
  case walkRead =>
    refine State.completion_keepsEvents he fun _ _ s => ?_
    split
    · split
      · exact .walkStops (.refl s) _ _
      · exact .walkOn (.refl s) _ _
      · exact .walkOn (.refl s) _ _
      · exact .of_eq (by simp)
      · exact .of_eq (by simp)
    · exact .refl s
  case imageRead =>
    refine State.completion_keepsEvents he fun _ _ s => ?_
    split
    · exact .ite (.of_eq (by simp)) (.haltJournal (.refl s) _ _)
    · exact .refl s
  case recoveryClose =>
    refine State.completion_keepsEvents he fun _ _ s => ?_
    split
    · exact .finishRecovery (.raise (by exact .refl s) _)
    · exact .refl s
  case commitHeader =>
    exact State.completion_keepsEvents he fun _ _ s =>
      .leaveCommitting (.raise (by exact .refl s) _)
  case rollbackHeader =>
    refine State.completion_keepsEvents he fun _ _ s => ?_
    split
    · exact .leaveRollback (.raise (by exact .refl s) _)
    · exact .refl s
  case anchorWrite =>
    refine State.completion_keepsEvents he fun _ _ s => ?_
    split
    · split
      · exact .ite (.of_eq (by simp)) (.ite (.refl s) (.switchAnchor (.refl s) _))
      · exact .refl s
    · exact .refl s
  case format =>
    refine State.completion_keepsEvents he fun _ _ s => ?_
    split
    · exact .ite (.of_eq (by simp)) (.endFormat (.refl s))
    · exact .refl s
  case scanRead =>
    exact State.completion_keepsEvents he fun _ ws s =>
      .ite (.of_eq (by simp)) (.foldScanRead (.refl s) ws)
  case linkRead | recoveryRewrite | wipeHeader | openingHeader | openRecord | commitRecord |
      dataWrite => exact State.completion_keepsEvents he fun _ _ s => .of_eq (by simp)
  case restoreWrite =>
    refine State.completion_keepsEvents he fun _ _ s => ?_
    split
    · exact .ite (.of_eq (by simp)) (.of_eq (by simp))
    · exact .refl s
  case undoneWrite | wipe | blockRead | imageWrite | hostRead | slotClear =>
    refine State.completion_keepsEvents he fun _ _ s => ?_
    (repeat' split) <;> exact .of_eq (by simp)

theorem exec_keepsEvents {c : Instr} (he : exec c s = .next t) : s.keepsEvents t := by
  cases c
  case hostAddressPhase =>
    simp only [exec, execHostAddressPhase] at he
    exact State.outside_keepsEvents he fun s => .ite (.classify (by exact .refl s) _) (.refl s)
  case heldAccessRelease =>
    simp only [exec, execHeldAccessRelease] at he
    refine State.within_keepsEvents he fun s => ?_
    split
    · exact .ite (.classify (.refl s) _) (.refl s)
    · exact .refl s
  case hostDataPhase => exact State.outside_keepsEvents he fun s => .of_eq (by simp)
  case tick =>
    simp only [exec, execTick] at he
    exact State.outside_keepsEvents he fun s => .ite (.refl s) (.refl s)
  case ageTimeout | duePeriodicScanStart =>
    exact State.within_keepsEvents he fun s => .of_eq (by simp)
  case scanIntervalExpiry | safeEntry =>
    simp only [exec, execScanIntervalExpiry, execSafeEntry] at he
    exact State.within_keepsEvents he fun s => .ite (.of_eq (by simp)) (.refl s)
  case waitingWriteTakesPlace | queuedReadProceeds | forwardWorkStart | storeWorkStart |
      backwardActivityStart =>
    simp only [exec, execWaitingWriteTakesPlace, execQueuedReadProceeds, execForwardWorkStart,
      execStoreWorkStart, execBackwardActivityStart] at he
    refine State.within_keepsEvents he fun s => ?_
    (repeat' split) <;> exact .of_eq (by simp)
  case powerOn | powerLoss | rstAssertion | rstRelease | grpRise | grpFall | pfailAssertion |
      pfailDeassertion | lselAssertion | lselDeassertion =>
    exact exec_keepsEvents_of_lineEvent rfl he
  case status | nextEvent | abortGroup | setMask | readLive | readStage | stage | copyLiveToStage |
      storeAnchor | format | readJournal | scanRegion | unknownCommand | badCheckFrame =>
    exact exec_keepsEvents_of_linkPart rfl he
  all_goals exact exec_keepsEvents_of_completion (eq_completion_of_isCompletion rfl) he

end

/-- Settles O12: a command raises events, takes the first entry, empties the set or leaves it. -/
theorem eventsSoundKept : Obligations.EventsSoundKept := by
  intro s t h he
  rw [step_eq] at he
  split at he
  · exact exec_keepsEvents he h
  · exact State.outside_keepsEvents he (fun s => .refl s) h

end Sys2Proof.Machine

/-! # Proofs: link frames as bytes (O4, O5, O6)

A command part is its command byte, its arguments and a check byte. Its length, its arguments and
its check byte are each tied to the command once, and both directions are put together from these. -/

namespace Sys2Proof

/-! ## Words as they travel (R165) -/

theorem wordBytes_wordOfBytes (hi lo : Byte) : wordBytes (wordOfBytes hi lo) = [hi, lo] := by
  rw [wordBytes, wordOfBytes, BitVec.extractLsb'_append_eq_left,
    BitVec.extractLsb'_append_eq_right]

theorem wordOfBytes_extract (w : Word) :
    wordOfBytes (w.extractLsb' 8 8) (w.extractLsb' 0 8) = w :=
  BitVec.extractLsb'_append_extractLsb' (w := 8) (len := 8)

@[simp] theorem wordsBytes_length (ws : List Word) : (wordsBytes ws).length = 2 * ws.length := by
  induction ws with
  | nil => rfl
  | cons w ws ih =>
    rw [wordsBytes, List.length_append, ih, List.length_cons, wordBytes]
    exact (Nat.add_comm _ _).trans (Nat.mul_succ 2 ws.length).symm

/-- Words sent are the words read. -/
theorem wordsOfBytes_wordsBytes (ws : List Word) : wordsOfBytes (wordsBytes ws) = ws := by
  induction ws with
  | nil => rfl
  | cons w ws ih =>
    change wordOfBytes _ _ :: wordsOfBytes (wordsBytes ws) = _
    rw [ih, wordOfBytes_extract]

/-- Whole pairs of bytes carry one word each, and the words travel as these bytes. -/
theorem wordsBytes_wordsOfBytes {n : Nat} {bs : List Byte} (h : bs.length = 2 * n) :
    (wordsOfBytes bs).length = n ∧ wordsBytes (wordsOfBytes bs) = bs := by
  induction n generalizing bs with
  | zero =>
    obtain rfl := List.eq_nil_of_length_eq_zero h
    exact ⟨rfl, rfl⟩
  | succ n ih =>
    obtain ⟨hi, lo, rest, rfl⟩ : ∃ hi lo rest, bs = hi :: lo :: rest := by
      obtain ⟨hi, bs, rfl⟩ := List.exists_cons_of_length_pos (l := bs) (by omega)
      rw [List.length_cons] at h
      obtain ⟨lo, rest, rfl⟩ := List.exists_cons_of_length_pos (l := bs) (by omega)
      exact ⟨hi, lo, rest, rfl⟩
    obtain ⟨hlength, hbytes⟩ := ih (bs := rest) (by simp only [List.length_cons] at h; omega)
    refine ⟨congrArg (· + 1) hlength, ?_⟩
    rw [wordsOfBytes, wordsBytes, wordBytes_wordOfBytes, hbytes]
    rfl

/-! ## The check byte (R166) -/

theorem byteSum_append_byte (bs : List Byte) (c : Byte) : byteSum (bs ++ [c]) = byteSum bs + c := by
  simp [byteSum]

/-- The sum of a part fixes its last byte. -/
theorem byteSum_eq_frameSum_iff (bs : List Byte) (c : Byte) :
    byteSum (bs ++ [c]) = Config.frameSum ↔ c = checkByte bs := by
  rw [byteSum_append_byte, checkByte, eq_sub_iff_add_eq, add_comm]

/-! ## The parts of the commands (R165, R179) -/

/-- The bytes of a command part before its check byte. -/
def partBody (i : Instr) : List Byte := commandCode i :: commandArguments i

theorem encodePart_of_code {i : Instr} (h : namesCommand (commandCode i) = true) :
    encodePart i = partBody i ++ [checkByte (partBody i)] := by
  unfold encodePart
  exact if_pos h

/-- A link command has a code of its own, or it is a byte that names no command, or a part that
fails its check. -/
theorem Instr.isLinkPart_cases {i : Instr} (h : Instr.isLinkPart i = true) :
    namesCommand (commandCode i) = true ∨ (∃ code, i = .unknownCommand code) ∨
      ∃ part, i = .badCheckFrame part := by
  unfold Instr.isLinkPart at h
  split at h
  · exact .inr (.inl ⟨_, rfl⟩)
  · exact .inr (.inr ⟨_, rfl⟩)
  · exact .inl h

theorem Instr.isLinkPart_of_code {i : Instr} (h : namesCommand (commandCode i) = true) :
    Instr.isLinkPart i = true := by
  unfold Instr.isLinkPart
  split
  · rfl
  · rfl
  · exact h

/-- The length of a STAGE part follows from its count byte. -/
theorem partLength_of_stage (o n : Byte) (rest : List Byte) :
    partLength (0x07 :: o :: n :: rest) =
      if 1 ≤ n.toNat ∧ n.toNat ≤ 8 then some (4 + 2 * n.toNat) else some 4 := rfl

/-- The length that R165 gives to a STAGE part is that of its words. -/
theorem partLength_stageBody {o n : Byte} {ws : List Word} (h : stageWordsWf n ws = true)
    (check : Byte) :
    partLength (partBody (.stage o n ws) ++ [check]) =
      some (partBody (.stage o n ws) ++ [check]).length := by
  have hlength : (partBody (.stage o n ws) ++ [check]).length = 4 + 2 * ws.length := by
    simp [partBody, commandArguments]; omega
  have hpart : partLength (partBody (.stage o n ws) ++ [check]) =
      if 1 ≤ n.toNat ∧ n.toNat ≤ 8 then some (4 + 2 * n.toNat) else some 4 :=
    partLength_of_stage _ _ _
  unfold stageWordsWf at h
  rw [hlength, hpart]
  split at h
  · rw [if_pos ‹_›, beq_iff_eq.mp h]
  · rw [if_neg ‹_›, List.isEmpty_iff.mp h]
    rfl

/-- A command and its check byte, whatever its value, have the length of R165 and spell the
command. -/
theorem partBody_spells {i : Instr} (hwf : Instr.wf i = true)
    (hcode : namesCommand (commandCode i) = true) (check : Byte) :
    partLength (partBody i ++ [check]) = some (partBody i ++ [check]).length ∧
      decodeArguments (partBody i ++ [check]) = some i := by
  cases i
  case status | nextEvent | abortGroup | readLive | readStage | copyLiveToStage | storeAnchor |
      format | scanRegion => exact ⟨rfl, rfl⟩
  case setMask w => exact ⟨rfl, congrArg (some ∘ Instr.setMask) (wordOfBytes_extract w)⟩
  case readJournal o n =>
    exact ⟨rfl, congrArg (fun o => some (Instr.readJournal o n)) (wordOfBytes_extract o)⟩
  case stage o n ws =>
    refine ⟨partLength_stageBody hwf check, ?_⟩
    change some (Instr.stage o n (wordsOfBytes (wordsBytes ws ++ [check]).dropLast)) = _
    rw [List.dropLast_concat, wordsOfBytes_wordsBytes]
  all_goals exact absurd (show false = true from hcode) Bool.false_ne_true

/-- The words of a STAGE part that has the length of R165: as many as its count says, and they
travel as its bytes. -/
theorem stage_words_of_partLength {o n : Byte} {rest : List Byte}
    (h : partLength (0x07 :: o :: n :: rest) = some (rest.length + 3)) :
    stageWordsWf n (wordsOfBytes rest.dropLast) = true ∧
      ∃ check, rest = wordsBytes (wordsOfBytes rest.dropLast) ++ [check] := by
  rw [partLength_of_stage] at h
  have hne : rest ≠ [] := by
    rintro rfl
    split at h <;> (rw [Option.some.injEq, List.length_nil] at h; omega)
  have hrest := List.dropLast_concat_getLast hne
  have hdrop := List.length_dropLast (xs := rest)
  unfold stageWordsWf
  split at h
  · obtain ⟨hcount, hbytes⟩ := wordsBytes_wordsOfBytes (n := n.toNat) (bs := rest.dropLast)
      (by rw [Option.some.injEq] at h; omega)
    rw [if_pos ‹_›, hbytes]
    exact ⟨beq_iff_eq.mpr hcount, _, hrest.symm⟩
  · obtain ⟨hcount, hbytes⟩ := wordsBytes_wordsOfBytes (n := 0) (bs := rest.dropLast)
      (by rw [Option.some.injEq] at h; omega)
    rw [if_neg ‹_›, hbytes]
    exact ⟨List.isEmpty_iff_length_eq_zero.mpr hcount, _, hrest.symm⟩

/-- A part of the length of R165 that spells a command is that command's, with some check byte. -/
theorem eq_partBody_of_spells {bytes : List Byte} {i : Instr}
    (hlength : partLength bytes = some bytes.length) (h : decodeArguments bytes = some i) :
    Instr.wf i = true ∧ namesCommand (commandCode i) = true ∧
      ∃ check, bytes = partBody i ++ [check] := by
  unfold decodeArguments at h
  split at h <;> cases h
  case h_4 hi lo check =>
    refine ⟨rfl, rfl, check, ?_⟩
    change _ = 0x04 :: (wordBytes (wordOfBytes hi lo) ++ [check])
    rw [wordBytes_wordOfBytes]
    rfl
  case h_7 o n rest =>
    obtain ⟨hwf, check, hrest⟩ := stage_words_of_partLength hlength
    refine ⟨hwf, rfl, check, ?_⟩
    exact congrArg (fun bs => 0x07 :: o :: n :: bs) hrest
  case h_11 hi lo n check =>
    refine ⟨rfl, rfl, check, ?_⟩
    change _ = 0x0B :: (wordBytes (wordOfBytes hi lo) ++ [n, check])
    rw [wordBytes_wordOfBytes]
    rfl
  all_goals exact ⟨rfl, rfl, _, rfl⟩

/-! ## Reading a part (R165, R166, R180) -/

theorem decodePart_of_length {c : Byte} {rest : List Byte} (hcode : namesCommand c = true)
    (hlength : partLength (c :: rest) = some (c :: rest).length) :
    decodePart (c :: rest) =
      if byteSum (c :: rest) = Config.frameSum then decodeArguments (c :: rest)
      else some (.badCheckFrame (c :: rest)) := by
  simp only [decodePart, hcode, hlength, if_true]

/-- Only a byte that names a command begins a part of known length. -/
theorem namesCommand_of_partLength {c : Byte} {rest : List Byte} {n : Nat}
    (h : partLength (c :: rest) = some n) : namesCommand c = true := by
  simp only [partLength] at h
  split_ifs at h with hnone hthree hjournal hscan hstage
  · rcases hnone with rfl | rfl | rfl | rfl | rfl | rfl <;> rfl
  · rcases hthree with rfl | rfl | rfl <;> rfl
  · rw [hjournal]; rfl
  · rw [hscan]; rfl
  · rw [hstage]; rfl

/-- What the bytes read amount to: a whole part with a good check, one with a bad check, or one
byte that names no command. -/
theorem decodePart_cases {bytes : List Byte} {i : Instr} (h : decodePart bytes = some i) :
    (partLength bytes = some bytes.length ∧ byteSum bytes = Config.frameSum ∧
      decodeArguments bytes = some i) ∨
    (partLength bytes = some bytes.length ∧ byteSum bytes ≠ Config.frameSum ∧
      i = .badCheckFrame bytes) ∨
    ∃ code, namesCommand code = false ∧ bytes = [code] ∧ i = .unknownCommand code := by
  unfold decodePart at h
  split at h
  · cases h
  next c rest =>
    split at h
    · split at h
      · split at h
        · exact .inl ⟨‹_›, ‹_›, h⟩
        · cases h
          exact .inr (.inl ⟨‹_›, ‹_›, rfl⟩)
      · cases h
    · split at h
      · cases h
        exact .inr (.inr ⟨c, Bool.eq_false_iff.mpr ‹_›, by rw [‹rest = []›], rfl⟩)
      · cases h

/-- Settles O4: a command's own part has the length and the check that R165 and R166 ask for. -/
theorem linkPartRoundTrip : Obligations.LinkPartRoundTrip := by
  intro i hwf hlink
  rcases Instr.isLinkPart_cases hlink with hcode | ⟨code, rfl⟩ | ⟨part, rfl⟩
  · obtain ⟨hlength, hspells⟩ := partBody_spells hwf hcode (checkByte (partBody i))
    rw [encodePart_of_code hcode]
    exact (decodePart_of_length hcode hlength).trans
      ((if_pos (Machine.byteSum_append_checkByte (partBody i))).trans hspells)
  · have hcode : namesCommand code = false := by simpa [Instr.wf] using hwf
    change decodePart [code] = _
    simp [decodePart, hcode]
  · obtain ⟨hlength, hsum⟩ : partLength part = some part.length ∧
        byteSum part ≠ Config.frameSum := by simpa [Instr.wf] using hwf
    change decodePart part = _
    cases part with
    | nil => cases hlength
    | cons c rest =>
      rw [decodePart_of_length (namesCommand_of_partLength hlength) hlength, if_neg hsum]

/-- Settles O5: the sum fixes the check byte, and the rest of the part is the command's. -/
theorem linkPartBytesRecovered : Obligations.LinkPartBytesRecovered := by
  intro bytes i h
  rcases decodePart_cases h with ⟨hlength, hsum, hspells⟩ | ⟨hlength, hsum, rfl⟩ |
    ⟨code, hcode, rfl, rfl⟩
  · obtain ⟨hwf, hcode, check, rfl⟩ := eq_partBody_of_spells hlength hspells
    refine ⟨hwf, Instr.isLinkPart_of_code hcode, ?_⟩
    rw [encodePart_of_code hcode, (byteSum_eq_frameSum_iff _ _).mp hsum]
  · exact ⟨by simp [Instr.wf, hlength, hsum], rfl, rfl⟩
  · exact ⟨by simp [Instr.wf, hcode], rfl, rfl⟩

/-- Settles O6: the first five are the parts of the commands they spell. -/
theorem workedLinkFrames : Obligations.WorkedLinkFrames :=
  ⟨linkPartRoundTrip .status rfl rfl, linkPartRoundTrip (.setMask 0x05FF) rfl rfl,
    linkPartRoundTrip (.stage 0x06 0x02 [0x000F, 0x01F4]) rfl rfl,
    linkPartRoundTrip (.readJournal 0 0x04) rfl rfl,
    linkPartRoundTrip (.unknownCommand 0xFF) rfl rfl,
    linkPartRoundTrip (.badCheckFrame [0x01, 0x5A]) rfl rfl, rfl⟩

end Sys2Proof

/-! # Proofs: the commands of the management link (O19, O37, O38, O41) -/

namespace Sys2Proof.Machine

/-! ## Frames as bits (R164) -/

theorem byteBits_eq_map (b : Byte) :
    byteBits b = (List.range 8).map (fun k => b.getLsbD (7 - k)) := rfl

/-- Whole bytes and the bits of an incomplete one carry the whole bytes. -/
theorem bytesOfBits_flatMap (bytes : List Byte) {cut : List Bool} (hcut : cut.length < 8) :
    bytesOfBits (bytes.flatMap byteBits ++ cut) = bytes := by
  induction bytes with
  | nil => exact bytesOfBits_cut hcut
  | cons b rest ih => rw [List.flatMap_cons, List.append_assoc, bytesOfBits_byteBits, ih]

theorem flatMap_byteBits_length (bytes : List Byte) :
    (bytes.flatMap byteBits).length = 8 * bytes.length := by
  induction bytes with
  | nil => rfl
  | cons b rest ih =>
    have hb : (byteBits b).length = 8 := rfl
    rw [List.flatMap_cons, List.length_append, ih, hb, List.length_cons]
    omega

/-- A command is taken at the last bit of a byte, and at no bit within one. -/
theorem decodeBits_flatMap (bytes : List Byte) {cut : List Bool} (hcut : cut.length < 8) :
    decodeBits (bytes.flatMap byteBits ++ cut) = if cut = [] then decodePart bytes else none := by
  have hend : (bytes.flatMap byteBits ++ cut).length % 8 = 0 ↔ cut = [] := by
    rw [List.length_append, flatMap_byteBits_length, ← List.length_eq_zero_iff]
    omega
  simp only [decodeBits, hend, bytesOfBits_flatMap bytes hcut]

/-! ## Answers (R167, R169) -/

theorem byteSum_responsePart (st : LinkStatus) (data : List Byte) :
    byteSum (responsePart st data) = Config.frameSum :=
  byteSum_append_checkByte _

/-- Settles O19: the check byte of the response part is the one that its sum asks for. -/
theorem linkAnswer : Obligations.LinkAnswer := by
  refine ⟨fun i st data s => ⟨_, rfl, byteSum_responsePart st data⟩,
    fun i r s => ⟨_, rfl, byteSum_responsePart .invalid [InvalidReason.code r]⟩,
    fun st => ?_, fun r => ?_, ?_⟩
  · cases st <;> rfl
  · cases r <;> rfl
  · exact ⟨rfl, rfl, rfl, fun _ => rfl, fun _ _ => rfl, fun _ _ => rfl, fun _ _ _ => rfl, rfl, rfl,
      rfl, fun _ _ => rfl, fun _ => rfl⟩

section
variable {s s0 : State}

/-! ## Frames that begin and end (R164, R168) -/

theorem exec_lselAssertion (h : s.closesTo s0) (hlsel : s0.lines.lsel = false) :
    exec .lselAssertion s =
      .next (State.finish { s0 with lines.lsel := true, link.frame := .awaiting }) := by
  rw [h.lines_eq] at hlsel
  change execLselAssertion s = _
  rw [execLselAssertion, if_neg (by simp [hlsel]), if_pos h.1, State.outside_of_closesTo h]

theorem exec_lselDeassertion (h : s.closesTo s0) (hlsel : s0.lines.lsel = true)
    {bits : List Bool} (hcut : partUnfinished (bytesOfBits bits) = true) :
    exec (.lselDeassertion bits) s =
      .next (State.finish (State.endFrame (bytesOfBits bits) s0)) := by
  rw [h.lines_eq] at hlsel
  change execLselDeassertion bits s = _
  rw [execLselDeassertion, if_pos (by simp [hlsel, hcut]), if_pos h.1,
    State.outside_of_closesTo h]

/-- An event raised under a condition: the pending set takes it or stays. -/
theorem State.ite_raise (p : Prop) [Decidable p] (e : Event) (s : State) :
    (if p then State.raise e s else s) =
      { s with events.pendingSet :=
          if p then raiseIn e s.events.pendingSet else s.events.pendingSet } := by
  split <;> rfl

/-- Every link command is taken in an awaiting frame only. -/
theorem exec_linkPart_form {i : Instr} (h : Instr.isLinkPart i = true) :
    ∃ f : State → State, ∀ s, exec i s = State.outside (State.inFrame f) s := by
  cases i
  case status | nextEvent | abortGroup | setMask | readLive | readStage | stage | copyLiveToStage |
      storeAnchor | format | readJournal | scanRegion | unknownCommand | badCheckFrame =>
    exact ⟨_, fun _ => rfl⟩
  all_goals exact absurd (show false = true from h) Bool.false_ne_true

theorem exec_linkPart_outside_frame {i : Instr} (hlink : Instr.isLinkPart i = true)
    (h : s.closesTo s0) (hframe : s0.link.frame ≠ .awaiting) :
    exec i s = .next (State.finish s0) := by
  obtain ⟨f, hf⟩ := exec_linkPart_form hlink
  rw [hf, State.outside_of_closesTo h, State.inFrame, if_neg hframe]

/-! ## Parts that are not taken (R165, R166, R180) -/

theorem exec_unknownCommand (h : s.closesTo s0) (hframe : s0.link.frame = .awaiting) {code : Byte}
    (hcode : namesCommand code = false) :
    exec (.unknownCommand code) s = .next (State.finish (State.respond .unknown [] s0)) := by
  refine (State.link_of_closesTo h hframe _).trans ?_
  rw [if_neg (by simp [hcode])]

theorem exec_badCheckFrame (h : s.closesTo s0) (hframe : s0.link.frame = .awaiting)
    {part : List Byte} (hwf : Instr.wf (.badCheckFrame part) = true) :
    exec (.badCheckFrame part) s =
      .next (State.finish (State.respond .badCheck [] (State.raise (.linkError 0 1) s0))) := by
  refine (State.link_of_closesTo h hframe _).trans ?_
  rw [if_pos hwf]

theorem responsePart_unknown : responsePart .unknown [] = [0x09, 0x51] := by decide

theorem responsePart_badCheck : responsePart .badCheck [] = [0x08, 0x52] := by decide

end

/-- Settles O37. -/
theorem linkFrames : Obligations.LinkFrames := by
  refine ⟨⟨fun s s0 h hlsel => exec_lselAssertion h hlsel, fun bytes cut hcut => ?_,
    fun bits s s0 h hlsel hcut => ?_,
    fun i s s0 h hlink hframe => exec_linkPart_outside_frame hlink h hframe⟩,
    fun code s s0 h hframe hcode => ?_, fun part s s0 h hframe hlength hsum => ?_⟩
  · exact ⟨bytesOfBits_flatMap bytes hcut, decodeBits_flatMap bytes hcut⟩
  · rw [exec_lselDeassertion h hlsel hcut]
    exact congrArg (Host.Outcome.next ∘ State.finish) (State.ite_raise _ _ _)
  · rw [exec_unknownCommand h hframe (by simp [namesCommand]; omega), State.respond,
      responsePart_unknown]
  · rw [exec_badCheckFrame h hframe (by simpa [Instr.wf, hlength] using hsum), State.respond,
      responsePart_badCheck, State.raise_eq]

/-! ## The STATUS record (R171, R179) -/

theorem Event.priority_pos (e : Event) : 1 ≤ Event.priority e := by
  cases e <;> exact Nat.le_add_left 1 _

theorem Event.priority_le (e : Event) : Event.priority e ≤ 11 := by
  cases e <;> simp [Event.priority]

/-- The bit of one kind in the bitmap. -/
theorem kindBit_iff (e : Event) (k : Nat) :
    (1#16 <<< (Event.priority e - 1)).getLsbD k = true ↔ Event.priority e = k + 1 := by
  have hpos := Event.priority_pos e
  have hle := Event.priority_le e
  simp only [BitVec.getLsbD_shiftLeft, BitVec.getLsbD_one, Bool.and_eq_true, decide_eq_true_eq,
    Bool.not_eq_true', decide_eq_false_iff_not]
  omega

theorem kindsBitmap_getLsbD_iff (l : List PendingEvent) (k : Nat) :
    (kindsBitmap l).getLsbD k = true ↔ ∃ p ∈ l, Event.priority p.event = k + 1 := by
  induction l with
  | nil => simp [kindsBitmap]
  | cons p rest ih =>
    simp only [kindsBitmap, BitVec.getLsbD_or, Bool.or_eq_true, kindBit_iff, ih, List.mem_cons,
      exists_eq_or_imp]

theorem State.lineFlags_eq (s : State) :
    flagNat s.intLine + 2 * flagNat s.failLine + 4 * flagNat s.safeLine =
      (if s.intLine then 1 else 0) + (if s.failLine then 2 else 0) +
        (if s.safeLine then 4 else 0) := by
  cases s.intLine <;> cases s.failLine <;> cases s.safeLine <;> rfl

theorem exec_status {s s0 : State} (h : s.closesTo s0) (hframe : s0.link.frame = .awaiting) :
    exec .status s = .next (State.finish (State.respond .ok s0.statusRecord s0)) :=
  State.link_of_closesTo h hframe _

/-- Settles O38. -/
theorem statusEffect : Obligations.StatusEffect := by
  intro s s0 h hframe
  refine ⟨_, byteSum_responsePart .ok s0.statusRecord, exec_status h hframe, ?_,
    kindsBitmap_getLsbD_iff _, ?_⟩
  · cases s0.group.state <;> rfl
  · rw [State.statusRecord, State.lineFlags_eq]
    rfl

/-! ## READ_JOURNAL and its completion (R174) -/

section
variable {s s0 : State} {o : Word} {n : Byte}

theorem exec_readJournal (h : s.closesTo s0) (hframe : s0.link.frame = .awaiting) (o : Word)
    (n : Byte) :
    exec (.readJournal o n) s = .next (State.finish (State.takeReadJournal o n s0)) :=
  State.link_of_closesTo h hframe _

/-- The first cases of R174: no anchor is live in RECOVERING, PFAIL is asserted, or a journal read
is outstanding. -/
theorem State.takeReadJournal_of_busy
    (h : (s.group.state = .recovering ∧ s.anchor.isLive = false) ∨ s.lines.pfail = true ∨
      s.link.read ≠ .none) :
    State.takeReadJournal o n s = State.answer (.readJournal o n) .busy [] s := by
  rcases h with ⟨hstate, hlive⟩ | hpfail | hread
  · simp [State.takeReadJournal, hstate, hlive]
  · simp [State.takeReadJournal, hpfail]
  · simp [State.takeReadJournal, hread]

theorem State.takeReadJournal_of_noAnchor (hstate : s.group.state ≠ .recovering)
    (hpfail : s.lines.pfail = false) (hread : s.link.read = .none)
    (hlive : s.anchor.isLive = false) :
    State.takeReadJournal o n s = State.answerInvalid (.readJournal o n) .noJournal s := by
  simp [State.takeReadJournal, hstate, hpfail, hread, hlive]

/-- The words named are 1 to 8, inside the journal area (R22, R174). -/
def journalRange (a : List Word) (o : Word) (n : Byte) : Bool :=
  1 ≤ n.toNat && n.toNat ≤ 8 && o.toNat + n.toNat ≤ journalWords a

theorem journalRange_iff (a : List Word) (o : Word) (n : Byte) :
    journalRange a o n = true ↔
      1 ≤ n.toNat ∧ n.toNat ≤ 8 ∧ o.toNat + n.toNat ≤ 512 * (wordAtIndex a 3).toNat := by
  simp only [journalRange, Bool.and_eq_true, decide_eq_true_eq, and_assoc]
  rfl

theorem journalRange_eq_false_iff (a : List Word) (o : Word) (n : Byte) :
    journalRange a o n = false ↔
      n.toNat = 0 ∨ 8 < n.toNat ∨ 512 * (wordAtIndex a 3).toNat < o.toNat + n.toNat := by
  rw [← Bool.not_eq_true, journalRange_iff]
  omega

/-- With an anchor live and no read outstanding the words named decide (the last cases of R174). -/
theorem State.takeReadJournal_of_live (hpfail : s.lines.pfail = false)
    (hread : s.link.read = .none) (hlive : s.anchor.isLive = true) :
    State.takeReadJournal o n s =
      if !journalRange s.anchor.live o n then State.answerInvalid (.readJournal o n) .range s
      else
        State.requestJournalRead .linkRead o.toNat n.toNat
          { s with
            link := { frame := .answered, response := [], fillers := 0, code := 0x0B, status := 0,
                      reason := 0, read := .outstanding true } } :=
  (if_neg (by simp [hpfail, hlive])).trans
    ((if_neg (by simp [hread])).trans (if_neg (by simp [hlive])))

theorem exec_linkJournalReadComplete {t : Transfer} (h : s.completes .linkRead t s0) :
    exec .linkJournalReadComplete s = .next (State.finish
      (State.endLinkRead .ok (wordsBytes (Transfer.wordsRead t s0.mem)) (State.completed t s0))) :=
  State.completion_of_completes h _

end

/-- Settles O41: the cases of R174 in their order, and the outcome of an outstanding read. -/
theorem journalReads : Obligations.JournalReads := by
  refine ⟨fun o n s s0 h hframe => ?_, fun t s s0 h => ?_⟩
  · rw [exec_readJournal h hframe]
    refine ⟨fun hbusy => ?_, fun hrec hpfail hread => ⟨fun hlive => ?_, fun hlive => ?_⟩⟩
    · rw [State.takeReadJournal_of_busy hbusy]
    · have hstate : s0.group.state ≠ .recovering := fun hs => by simp [hrec hs] at hlive
      rw [State.takeReadJournal_of_noAnchor hstate hpfail hread hlive]
    · rw [State.takeReadJournal_of_live hpfail hread hlive, ← journalRange_eq_false_iff,
        ← journalRange_iff]
      refine ⟨fun hrange => ?_, fun hrange => ?_⟩
      · rw [if_pos (by simp [hrange])]
      · rw [if_neg (by simp [hrange])]
        rfl
  · rw [exec_linkJournalReadComplete h]
    refine ⟨fun hread => ⟨_, ?_, byteSum_responsePart .ok _⟩, fun hread => ?_⟩
    · rw [State.endLinkRead_of_answering (s := State.completed t s0) _ _ hread]
      rfl
    · rw [State.endLinkRead_of_unheard (s := State.completed t s0) _ _ (by simp [hread])]
      rfl

end Sys2Proof.Machine

/-! # Proofs: the step (O1)

The two branches of `step_eq`, each named by what the queue holds. -/

namespace Sys2Proof.Machine

/-- A waiting command is taken from the queue before it is run, so its effect sees only the rest. -/
theorem step_of_pending_cons {c : Instr} {rest : List Instr} {s : State}
    (h : s.pending = c :: rest) : step s = exec c { s with pending := rest } := by
  rw [step_eq, h]

/-- The idle step closes the moment and nothing comes after it (log entry 6). -/
theorem State.idleStep_eq (s : State) :
    State.idleStep s = .next (if s.running then State.finish (State.settle s) else s) := rfl

theorem step_of_pending_nil {s : State} (h : s.pending = []) :
    step s = .next (if s.running then State.finish (State.settle s) else s) := by
  rw [step_eq, h]
  exact State.idleStep_eq s

/-- Settles O1. -/
theorem stepTakesFrontCommand : Obligations.StepTakesFrontCommand :=
  ⟨fun _ _ _ h => step_of_pending_cons h, fun _ h => step_of_pending_nil h⟩

end Sys2Proof.Machine

/-! # Proofs: a transfer that loss of power cuts (O8) -/

namespace Sys2Proof.Machine

/-- The words before the one being written hold what the whole write would have left (R146). -/
theorem Memory.read_putWordsCut_before {m : Memory} (h : m.wf) (k done : Nat) (torn : Word)
    (ws : List (LaneSet × Word)) {a : Nat} (ha : a < 2 * (k + done)) :
    Memory.read (Memory.putWordsCut m k done torn ws) a =
      Memory.read (Memory.putWords m k ws) a := by
  induction ws generalizing m k done with
  | nil => cases done <;> rfl
  | cons x rest ih =>
    cases done with
    | zero =>
      rw [Memory.read_putWordsCut_outside h k 0 torn _ (.inl ha),
        Memory.read_putWords_outside h k _ (.inl ha)]
    | succ n => exact ih (Memory.putWord_wf _ _ _ h) (k + 1) n (by omega)

/-- The words after the one being written hold their old contents (R146). -/
theorem Memory.read_putWordsCut_after {m : Memory} (h : m.wf) (k done : Nat) (torn : Word)
    (ws : List (LaneSet × Word)) {a : Nat} (ha : 2 * (k + done) + 2 ≤ a) :
    Memory.read (Memory.putWordsCut m k done torn ws) a = Memory.read m a := by
  induction ws generalizing m k done with
  | nil => cases done <;> rfl
  | cons x rest ih =>
    cases done with
    | zero =>
      simp only [Memory.putWordsCut]
      split
      · rfl
      · exact Memory.read_putWord_other h _ _ _ (by omega)
    | succ n =>
      rw [Memory.putWordsCut, ih (Memory.putWord_wf _ _ _ h) (k + 1) n (by omega)]
      exact Memory.read_putWord_other h _ _ _ (by omega)

/-- Settles O8. -/
theorem cutTransfer : Obligations.CutTransfer := by
  refine ⟨fun t m n done torn hbody => ?_, fun t m ws done torn a hwf hbody => ?_⟩
  · simp only [Transfer.memoryCut, hbody]
  · simp only [Transfer.memoryCut, Transfer.memoryAfter, hbody]
    exact ⟨Memory.read_putWordsCut_before hwf _ _ _ _, Memory.read_putWordsCut_after hwf _ _ _ _⟩

end Sys2Proof.Machine

/-! # Proofs: what a command stores (O9, O10)

Every command leaves the memory as it was, or as the transfer in flight at its moment leaves it:
whole at its completion and at RST assertion, cut at loss of power. The canonical form and the frame
of the memory are read off that. -/

namespace Sys2Proof.Machine

/-! ## The memory after a command -/

/-- The memories that a command sent in a state can leave behind (R140, R146). -/
def State.memoryLeftBy (s : State) (c : Instr) (m : Memory) : Prop :=
  m = s.mem ∨ ∃ tr, s.transferNow = some tr ∧
    ((c = tr.purpose.completion ∨ c = .rstAssertion) ∧ m = Transfer.memoryAfter tr s.mem ∨
      ∃ done torn, c = .powerLoss done ∧ m = Transfer.memoryCut tr done torn s.mem)

section
variable {s t : State} {c : Instr}

theorem State.memoryLeftBy.unmoved : s.memoryLeftBy c s.mem := .inl rfl

theorem State.memoryLeftBy.whole {tr : Transfer}
    (hflight : s.transferNow = some tr) (hc : c = tr.purpose.completion ∨ c = .rstAssertion) :
    s.memoryLeftBy c (Transfer.memoryAfter tr s.mem) :=
  .inr ⟨tr, hflight, .inl ⟨hc, rfl⟩⟩

theorem State.memoryLeftBy.cut {tr : Transfer} {done : Nat} (torn : Word)
    (hflight : s.transferNow = some tr) (hc : c = .powerLoss done) :
    s.memoryLeftBy c (Transfer.memoryCut tr done torn s.mem) :=
  .inr ⟨tr, hflight, .inr ⟨done, torn, hc, rfl⟩⟩

theorem State.memoryLeftBy.of_eq (h : t.mem = s.mem) : s.memoryLeftBy c t.mem := h ▸ .unmoved

theorem State.memoryLeftBy.ite {p : Prop} {_ : Decidable p} {a b : State}
    (ha : p → s.memoryLeftBy c a.mem) (hb : ¬ p → s.memoryLeftBy c b.mem) :
    s.memoryLeftBy c (if p then a else b).mem := by
  split
  · exact ha ‹_›
  · exact hb ‹_›

theorem State.transferNow_of_running (h : s.running = true) :
    s.transferNow = (State.settle s).port.inFlight := by
  rw [State.transferNow, if_pos h]

/-! ## The forms a meaning has -/

theorem State.mem_of_next {s' : State}
    (he : (Host.Outcome.next s' : Host.Outcome State Fault Refusal) = .next t)
    (h : s'.mem = s.mem) : t.mem = s.mem :=
  Host.Outcome.next.inj he ▸ h

theorem State.outside_mem {f : State → State} (he : State.outside f s = .next t)
    (hf : ∀ s : State, (f s).mem = s.mem) : t.mem = s.mem := by
  obtain rfl := State.outside_eq_next.mp he
  split
  · simp [hf]
  · rfl

theorem State.within_mem {f : State → State} (he : State.within f s = .next t)
    (hf : ∀ s : State, (f s).mem = s.mem) : t.mem = s.mem := by
  obtain rfl := State.within_eq_next.mp he
  split
  · simp [hf]
  · rfl

/-- A command of the link: nothing outside an awaiting frame. -/
theorem State.link_mem {f : State → State} (he : State.outside (State.inFrame f) s = .next t)
    (hf : ∀ s : State, (f s).mem = s.mem) : t.mem = s.mem :=
  State.outside_mem he fun s => by
    rcases State.inFrame_cases f s with heq | heq
    · rw [heq, hf]
    · rw [heq]

/-- A completion: the transfer in flight completes whole and its owner stores nothing more, or
nothing completes. -/
theorem State.completion_memoryLeftBy {p : Purpose}
    {after : Transfer → List Word → State → State}
    (he : State.outside (State.complete p after) s = .next t)
    (hafter : ∀ tr ws (s : State), (after tr ws s).mem = s.mem) :
    s.memoryLeftBy p.completion t.mem := by
  obtain rfl := State.outside_eq_next.mp he
  refine .ite (fun hrun => ?_) fun _ => .unmoved
  rcases State.complete_cases p after (State.settle s) with ⟨tr, hflight, rfl, heq⟩ | ⟨-, heq⟩
  · have hmem : (State.finish (after tr (Transfer.wordsRead tr (State.settle s).mem)
        (State.completed tr (State.settle s)))).mem = Transfer.memoryAfter tr s.mem := by
      simp [hafter, State.completed]
    rw [heq]
    exact hmem ▸ .whole (State.transferNow_of_running hrun ▸ hflight) (.inl rfl)
  · rw [heq]
    exact .of_eq (by simp)

/-! ## The commands -/

@[simp] theorem State.endFrame_mem (received : List Byte) (s : State) :
    (State.endFrame received s).mem = s.mem := by
  simp only [State.endFrame]
  split <;> rfl

/-- Loss of power cuts the transfer in flight (R146). -/
theorem exec_powerLoss_memoryLeftBy {done : Nat} (he : exec (.powerLoss done) s = .next t) :
    s.memoryLeftBy (.powerLoss done) t.mem := by
  obtain rfl := Host.Outcome.next.inj he
  refine .ite (fun _ => ?_) fun _ => .unmoved
  have hmem : (if s.running then State.settle s else s).mem = s.mem := by split <;> simp
  change s.memoryLeftBy _ (State.cutInFlight done (if s.running then State.settle s else s))
  unfold State.cutInFlight
  split
  · rw [hmem]
    exact .cut _ ‹_› rfl
  · exact .of_eq hmem

/-- At RST assertion the transfer in flight completes whole (R99, R140). -/
theorem exec_rstAssertion_memoryLeftBy (he : exec .rstAssertion s = .next t) :
    s.memoryLeftBy .rstAssertion t.mem := by
  obtain rfl := Host.Outcome.next.inj he
  refine .ite (fun _ => .unmoved) fun hrst => .ite (fun hpow => ?_) fun _ => .unmoved
  have hrun : s.running = true := s.running_iff.mpr ⟨hpow, Bool.eq_false_iff.mpr hrst⟩
  have hmem : (State.settle s).mem = s.mem := by simp
  change s.memoryLeftBy _ (State.wholeInFlight (State.settle s))
  unfold State.wholeInFlight
  split
  · rw [hmem]
    exact .whole (State.transferNow_of_running hrun ▸ ‹_›) (.inr rfl)
  · exact .of_eq hmem

/-- Of the commands of the supply and of the lines only loss of power and RST assertion store
anything. -/
theorem exec_memoryLeftBy_of_lineEvent (hline : isLineEvent c = true) (he : exec c s = .next t) :
    s.memoryLeftBy c t.mem := by
  cases c <;> simp only [isLineEvent, Bool.false_eq_true] at hline
  case rstAssertion => exact exec_rstAssertion_memoryLeftBy he
  case powerLoss => exact exec_powerLoss_memoryLeftBy he
  case powerOn | rstRelease =>
    refine .of_eq (State.mem_of_next he ?_)
    (repeat' split) <;> simp [State.startUp, State.beginRecovery, State.cleared]
  case pfailAssertion | pfailDeassertion =>
    refine .of_eq (State.mem_of_next he ?_)
    (repeat' split) <;> simp
  case grpRise | lselAssertion =>
    refine .of_eq ?_
    simp only [exec, execGrpRise, execLselAssertion] at he
    split at he
    · exact State.mem_of_next he rfl
    · split at he
      · exact State.outside_mem he fun s => by simp
      · exact State.mem_of_next he rfl
  case grpFall | lselDeassertion =>
    refine .of_eq ?_
    simp only [exec, execGrpFall, execLselDeassertion] at he
    split at he
    · split at he
      · exact State.outside_mem he fun s => by simp
      · exact State.mem_of_next he rfl
    · exact State.mem_of_next he rfl

/-- A command of the link stores nothing. -/
theorem exec_mem_of_linkPart (hlink : Instr.isLinkPart c = true) (he : exec c s = .next t) :
    t.mem = s.mem := by
  cases c
  case stage | unknownCommand | badCheckFrame =>
    refine State.link_mem he fun s => ?_
    split <;> simp
  case status | nextEvent | abortGroup | setMask | readLive | readStage | copyLiveToStage |
      storeAnchor | format | readJournal | scanRegion => exact State.link_mem he fun s => by simp
  all_goals exact absurd (show false = true from hlink) Bool.false_ne_true

/-- A completion stores what its transfer does; the reads of the anchor load store nothing. -/
theorem exec_memoryLeftBy_of_completion (hc : ∃ p, c = Purpose.completion p)
    (he : exec c s = .next t) : s.memoryLeftBy c t.mem := by
  obtain ⟨p, rfl⟩ := hc
  cases p
  case anchorLoad => exact .of_eq (State.outside_mem he fun s => by simp)
  case linkRead | recoveryRewrite | wipeHeader | openingHeader | openRecord | commitRecord |
      commitHeader | dataWrite =>
    exact State.completion_memoryLeftBy he fun _ _ s => by simp
  case restoreWrite =>
    refine State.completion_memoryLeftBy he fun _ _ s => ?_
    split
    · dsimp only
      split <;> simp
    · rfl
  all_goals
    refine State.completion_memoryLeftBy he fun _ _ s => ?_
    (repeat' split) <;> simp

/-- What a command leaves in memory. -/
theorem exec_memoryLeftBy (he : exec c s = .next t) : s.memoryLeftBy c t.mem := by
  cases c
  case powerOn | powerLoss | rstAssertion | rstRelease | grpRise | grpFall | pfailAssertion |
      pfailDeassertion | lselAssertion | lselDeassertion =>
    exact exec_memoryLeftBy_of_lineEvent rfl he
  case status | nextEvent | abortGroup | setMask | readLive | readStage | stage | copyLiveToStage |
      storeAnchor | format | readJournal | scanRegion | unknownCommand | badCheckFrame =>
    exact .of_eq (exec_mem_of_linkPart rfl he)
  case hostDataPhase => exact .of_eq (State.outside_mem he fun s => by simp)
  case tick | hostAddressPhase =>
    simp only [exec, execTick, execHostAddressPhase] at he
    exact .of_eq (State.outside_mem he fun s => by split <;> simp)
  case ageTimeout | duePeriodicScanStart => exact .of_eq (State.within_mem he fun s => by simp)
  case heldAccessRelease | waitingWriteTakesPlace | queuedReadProceeds | scanIntervalExpiry |
      safeEntry | forwardWorkStart | storeWorkStart | backwardActivityStart =>
    simp only [exec, execHeldAccessRelease, execWaitingWriteTakesPlace, execQueuedReadProceeds,
      execScanIntervalExpiry, execSafeEntry, execForwardWorkStart, execStoreWorkStart,
      execBackwardActivityStart] at he
    refine .of_eq (State.within_mem he fun s => ?_)
    (repeat' split) <;> simp
  all_goals exact exec_memoryLeftBy_of_completion (eq_completion_of_isCompletion rfl) he

/-! ## The canonical form, and the bytes outside the transfer -/

theorem State.memoryLeftBy.wf {m : Memory} (h : s.memoryLeftBy c m) (hwf : s.mem.wf) : m.wf := by
  obtain rfl | ⟨tr, -, ⟨-, rfl⟩ | ⟨done, torn, -, rfl⟩⟩ := h
  · exact hwf
  · exact Transfer.memoryAfter_wf tr hwf
  · exact Transfer.memoryCut_wf tr done torn hwf

/-- A whole transfer changes no byte that it does not store to (R140). -/
theorem Transfer.read_memoryAfter_outside {m : Memory} (h : m.wf) (tr : Transfer) {a : Nat}
    (ha : ¬ tr.stores a) : Memory.read (tr.memoryAfter m) a = Memory.read m a := by
  unfold Transfer.memoryAfter
  unfold Transfer.stores at ha
  cases hbody : tr.body with
  | read => rfl
  | write ws =>
    rw [hbody] at ha
    exact Memory.read_putWords_outside h _ _ (by dsimp only at ha; omega)

/-- Nor does a transfer that loss of power cuts (R146). -/
theorem Transfer.read_memoryCut_outside {m : Memory} (h : m.wf) (tr : Transfer) (done : Nat)
    (torn : Word) {a : Nat} (ha : ¬ tr.stores a) :
    Memory.read (tr.memoryCut done torn m) a = Memory.read m a := by
  unfold Transfer.memoryCut
  unfold Transfer.stores at ha
  cases hbody : tr.body with
  | read => rfl
  | write ws =>
    rw [hbody] at ha
    exact Memory.read_putWordsCut_outside h _ _ _ _ (by dsimp only at ha; omega)

theorem State.memoryLeftBy.read_outside {m : Memory} (h : s.memoryLeftBy c m) (hwf : s.mem.wf)
    {a : Nat} (ha : ∀ tr, s.transferNow = some tr → ¬ tr.stores a) :
    Memory.read m a = Memory.read s.mem a := by
  obtain rfl | ⟨tr, hflight, ⟨-, rfl⟩ | ⟨done, torn, -, rfl⟩⟩ := h
  · rfl
  · exact Transfer.read_memoryAfter_outside hwf tr (ha tr hflight)
  · exact Transfer.read_memoryCut_outside hwf tr done torn (ha tr hflight)

/-- Only the completion of a write in flight, loss of power and RST assertion store anything. -/
theorem State.memoryLeftBy.eq_of_no_store {m : Memory} (h : s.memoryLeftBy c m)
    (hrst : c ≠ .rstAssertion) (hloss : ∀ n, c ≠ .powerLoss n)
    (hwrite : ∀ tr ws, s.transferNow = some tr → tr.body = .write ws →
      c ≠ tr.purpose.completion) : m = s.mem := by
  obtain rfl | ⟨tr, hflight, ⟨hc | hc, rfl⟩ | ⟨done, -, hc, -⟩⟩ := h
  · rfl
  · cases hbody : tr.body with
    | read => simp only [Transfer.memoryAfter, hbody]
    | write ws => exact absurd hc (hwrite tr ws hflight hbody)
  · exact absurd hc hrst
  · exact absurd hc (hloss done)

end

/-- Settles O9: the front command leaves a canonical memory, and so does the close of a moment, which
stores nothing. -/
theorem memoryCanonicalKept : Obligations.MemoryCanonicalKept := by
  intro s t hwf he
  rw [step_eq] at he
  split at he
  · exact (exec_memoryLeftBy he).wf hwf
  · exact State.outside_mem he (fun _ => rfl) ▸ hwf

/-- Settles O10. -/
theorem memoryChangesOnlyByTransfer : Obligations.MemoryChangesOnlyByTransfer :=
  ⟨fun _ _ _ _ hwf he hout => (exec_memoryLeftBy he).read_outside hwf hout,
    fun _ _ _ he hrst hloss hwrite => (exec_memoryLeftBy he).eq_of_no_store hrst hloss hwrite⟩

end Sys2Proof.Machine

/-! # Proofs: the verification scanner (O25, O58) -/

namespace Sys2Proof.Machine

/-! ## Starts and abandonments (R141, R149, R150, R156) -/

section
variable {s : State}

/-- With a scan in progress and no read of an abandoned one in flight the next read is asked for
(R141, R150). -/
theorem State.requestScanRead_of_free (hscan : s.scanner.scan ≠ .none)
    (hfree : s.inFlightIs .scanRead = false) :
    State.requestScanRead s =
      State.request { purpose := .scanRead, addr := s.scanner.next, body := .read 8 } s := by
  simp [State.requestScanRead, hscan, hfree]

/-- The read of an abandoned scan that is still in flight is waited for (log entry 20). -/
theorem State.requestScanRead_of_inFlight (h : s.inFlightIs .scanRead = true) :
    State.requestScanRead s = s := by
  simp [State.requestScanRead, h]

theorem State.requestScanRead_of_none (h : s.scanner.scan = .none) :
    State.requestScanRead s = s := by
  simp [State.requestScanRead, h]

theorem State.abandonScan_of_none (h : s.scanner.scan = .none) : State.abandonScan s = s := by
  simp [State.abandonScan, h]

/-- The waiting read is withdrawn, and one in flight is marked to be discarded (R141, R156). -/
theorem State.abandonScan_of_scan (h : s.scanner.scan ≠ .none) :
    State.abandonScan s =
      { s with
        scanner.scan := .none
        port.discard := s.port.discard || s.inFlightIs .scanRead
        port.requests := { s.port.requests with scanner := none } } := by
  rw [State.abandonScan, if_neg h]
  rfl

end

/-- Settles O25. -/
theorem scanStartsAndAbandonments : Obligations.ScanStartsAndAbandonments := by
  refine ⟨?_, fun s => State.abandonScan_of_scan, fun s => State.abandonScan_of_none, fun s => rfl⟩
  intro kind i s hkind first last s1
  change State.requestScanRead s1 = _
  split
  · exact State.requestScanRead_of_inFlight (s := s1) ‹_›
  · exact State.requestScanRead_of_free (s := s1) hkind (Bool.eq_false_iff.mpr ‹_›)

/-! ## The search for the next periodic region (R152) -/

theorem periodicEligible_iff (a : List Word) (i : Nat) :
    periodicEligible a i = true ↔
      regionAttr a i = .frozen ∧ (wordAtIndex a (12 + 4 * i)).getLsbD 15 = true := by
  simp [periodicEligible, regionScanFlag]

/-- The first value of a rising sequence that passes a test is at the first place that does. -/
theorem find?_map_range_eq_some_iff {α : Type} (p : α → Bool) (f : Nat → α) (n : Nat) (x : α) :
    ((List.range n).map f).find? p = some x ↔
      ∃ k, k < n ∧ x = f k ∧ p x = true ∧ ∀ j, j < k → p (f j) = false := by
  rw [List.find?_map, Option.map_eq_some_iff]
  simp only [List.find?_range_eq_some, Function.comp]
  constructor
  · rintro ⟨k, ⟨hp, hk, hbefore⟩, rfl⟩
    exact ⟨k, by simpa using hk, rfl, hp, fun j hj => by simpa using hbefore j hj⟩
  · rintro ⟨k, hk, rfl, hp, hbefore⟩
    exact ⟨k, ⟨hp, by simpa using hk, fun j hj => by simpa using hbefore j hj⟩, rfl⟩

/-- The entry at which the search begins: the one after the last periodic region (R152). -/
def searchStart (last : Option Nat) : Nat :=
  match last with
  | some i => i + 1
  | none => 0

theorem nextPeriodic_eq (a : List Word) (last : Option Nat) :
    nextPeriodic a last =
      ((List.range 8).map (fun k => (searchStart last + k) % 8)).find? (periodicEligible a) := by
  cases last <;> rfl

theorem nextPeriodic_eq_some_iff (a : List Word) (last : Option Nat) (i : Nat) :
    nextPeriodic a last = some i ↔
      ∃ k, k < 8 ∧ i = (searchStart last + k) % 8 ∧ periodicEligible a i = true ∧
        ∀ j, j < k → periodicEligible a ((searchStart last + j) % 8) = false := by
  rw [nextPeriodic_eq, find?_map_range_eq_some_iff]

/-- The eight places of the search are the eight entries. -/
theorem exists_searched (start : Nat) {i : Nat} (hi : i < 8) : ∃ k, k < 8 ∧ (start + k) % 8 = i :=
  ⟨(i + 8 - start % 8) % 8, by omega, by omega⟩

theorem nextPeriodic_eq_none_iff (a : List Word) (last : Option Nat) :
    nextPeriodic a last = none ↔ ∀ i, i < 8 → periodicEligible a i = false := by
  rw [nextPeriodic_eq, List.find?_eq_none]
  simp only [List.mem_map, List.mem_range, Bool.not_eq_true]
  constructor
  · intro h i hi
    obtain ⟨k, hk, heq⟩ := exists_searched (searchStart last) hi
    exact h i ⟨k, hk, heq⟩
  · rintro h _ ⟨k, -, rfl⟩
    exact h _ (Nat.mod_lt _ (by decide))

/-! ## The interval's expiry and a due scan (R152) -/

section
variable {s : State}

theorem State.intervalExpired_iff (s : State) :
    s.intervalExpired = true ↔
      GroupState.scannerWorks s.group.state = true ∧
      (wordAtIndex s.anchor.live 8).toNat ≠ 0 ∧
      (wordAtIndex s.anchor.live 8).toNat ≤ s.scanner.count ∧ s.scanner.due = false ∧
      s.scanner.scan ≠ .periodic := by
  simp [State.intervalExpired, and_assoc]

/-- With no entry to visit the count starts anew. -/
theorem State.takeExpiry_of_none (h : nextPeriodic s.anchor.live s.scanner.last = none) :
    State.takeExpiry s = { s with scanner.count := 0 } := by
  simp [State.takeExpiry, h]

theorem State.takeExpiry_of_some {i : Nat}
    (h : nextPeriodic s.anchor.live s.scanner.last = some i) :
    State.takeExpiry s =
      if s.lines.pfail = true ∨ s.scanner.scan ≠ .none then { s with scanner.due := true }
      else State.startScan .periodic i s := by
  simp [State.takeExpiry, h]

theorem exec_scanIntervalExpiry (hrun : s.running = true) (hexpired : s.intervalExpired = true) :
    exec .scanIntervalExpiry s = .next (State.finish (State.takeExpiry s)) := by
  refine (State.within_of_running hrun _).trans ?_
  rw [if_pos hexpired]

theorem State.startDueScan_of_due {i : Nat} (hworks : s.group.state.scannerWorks = true)
    (hdue : s.scanner.due = true) (hscan : s.scanner.scan = .none)
    (hnext : nextPeriodic s.anchor.live s.scanner.last = some i) (hpfail : s.lines.pfail = false) :
    State.startDueScan s = State.startScan .periodic i { s with scanner.due := false } := by
  simp [State.startDueScan, hworks, hdue, hscan, hnext, hpfail]

/-- No scan starts while PFAIL is asserted (R156). -/
theorem State.startDueScan_of_pfail (hpfail : s.lines.pfail = true) : State.startDueScan s = s := by
  simp [State.startDueScan, hpfail]

end

/-! ## The completion of a scan read (R150, R153, R155, R156) -/

theorem foldScan_eq (v w : Word) : foldScan v w = (v <<< 1 ||| v >>> 15) + w := rfl

section
variable {s : State}

/-- The scanner once the words of a read are folded into its value (R150). -/
def State.scanFolded (ws : List Word) (s : State) : State :=
  { s with
    scanner.value := ws.foldl foldScan s.scanner.value
    scanner.next := s.scanner.next + 8
    scanner.remaining := s.scanner.remaining - 8 }

/-- With words left, the next eight are read. -/
theorem State.foldScanRead_of_left (ws : List Word) (hscan : s.scanner.scan ≠ .none)
    (hleft : s.scanner.remaining - 8 ≠ 0) :
    State.foldScanRead ws s = State.requestScanRead (s.scanFolded ws) := by
  unfold State.foldScanRead
  cases hkind : s.scanner.scan with
  | none => exact absurd hkind hscan
  | periodic | onRequest => exact if_neg hleft

theorem State.foldScanRead_of_periodic (ws : List Word) (hscan : s.scanner.scan = .periodic)
    (hend : s.scanner.remaining - 8 = 0) :
    State.foldScanRead ws s = State.endPeriodicScan (s.scanFolded ws) := by
  unfold State.foldScanRead
  rw [hscan]
  exact if_pos hend

theorem State.foldScanRead_of_onRequest (ws : List Word) (hscan : s.scanner.scan = .onRequest)
    (hend : s.scanner.remaining - 8 = 0) :
    State.foldScanRead ws s = State.endRequestedScan (s.scanFolded ws) := by
  unfold State.foldScanRead
  rw [hscan]
  exact if_pos hend

/-- A periodic scan that ends raises SCAN_MISMATCH unless its value is the expected one (R153). -/
theorem State.endPeriodicScan_eq (s : State) :
    State.endPeriodicScan s =
      { s with
        scanner.scan := .none
        scanner.last := some s.scanner.region
        scanner.count := 0
        events.pendingSet :=
          if s.scanner.value = regionExpected s.anchor.live s.scanner.region then
            s.events.pendingSet
          else raiseIn (.scanMismatch s.scanner.region s.scanner.value) s.events.pendingSet } := by
  simp only [State.endPeriodicScan]
  split <;> rfl

/-- A scan on request that ends raises SCAN_DONE, matched or not (R155). -/
theorem State.endRequestedScan_eq (s : State) :
    State.endRequestedScan s =
      { s with
        scanner.scan := .none
        events.pendingSet := raiseIn
          (.scanDone s.scanner.region s.scanner.value
            (decide (regionAttr s.anchor.live s.scanner.region = .frozen ∧
              s.scanner.value = regionExpected s.anchor.live s.scanner.region)))
          s.events.pendingSet } := by
  have hmatched (attr : Attr) (v w : Word) :
      (attr == .frozen && v == w) = decide (attr = .frozen ∧ v = w) := by
    rw [Bool.eq_iff_iff]; simp
  rw [State.endRequestedScan, hmatched]
  rfl

variable {t : Transfer} {s0 : State}

theorem exec_scanReadComplete_of_kept (h : s.completes .scanRead t s0)
    (hkept : s0.port.discard = false) :
    exec .scanReadComplete s = .next (State.finish
      (State.foldScanRead (Transfer.wordsRead t s0.mem) (State.completed t s0))) :=
  State.completion_eq h (if_neg (by simp [State.completed, hkept]))

/-- The words of an abandoned scan are discarded, and a scan started meanwhile asks for its first
read (R156; log entry 20). -/
theorem exec_scanReadComplete_of_discarded (h : s.completes .scanRead t s0)
    (hdiscard : s0.port.discard = true) :
    exec .scanReadComplete s = .next (State.finish
      (State.requestScanRead { State.completed t s0 with port.discard := false })) :=
  State.completion_eq h (if_pos hdiscard)

end

/-- Settles O58: the search, the interval's expiry and the start of a due scan, and the completion
of a read by what the port keeps of its words. -/
theorem scansRunAndEnd : Obligations.ScansRunAndEnd := by
  refine ⟨?_, ⟨fun s hrun hworks hne hle hdue hscan => ?_,
    fun i s hrun hworks hdue hscan hnext => ⟨fun hpfail => ?_, fun hpfail => ?_⟩⟩,
    foldScan_eq, ?_, fun t s s0 h hdiscard hnone => ?_, fun t s s0 h hdiscard hscan => ?_⟩
  · intro a last eligible start
    have heligible (i : Nat) : eligible i ↔ periodicEligible a i = true :=
      (periodicEligible_iff a i).symm
    have hstart : start = searchStart last := rfl
    simp only [heligible, hstart, Bool.not_eq_true]
    exact ⟨nextPeriodic_eq_none_iff a last, nextPeriodic_eq_some_iff a last⟩
  · rw [exec_scanIntervalExpiry hrun (s.intervalExpired_iff.mpr ⟨hworks, hne, hle, hdue, hscan⟩)]
    refine ⟨fun hnone => ?_, fun i hsome => ?_⟩
    · rw [State.takeExpiry_of_none hnone]
    · rw [State.takeExpiry_of_some hsome]
      exact ⟨fun hpfail hfree => by rw [if_neg (by simp [hpfail, hfree])],
        fun hbusy => by rw [if_pos hbusy]⟩
  · exact (State.within_of_running hrun _).trans
      (by rw [State.startDueScan_of_due hworks hdue hscan hnext hpfail])
  · exact (State.within_of_running hrun _).trans (by rw [State.startDueScan_of_pfail hpfail])
  · intro t s s0 h hkept hscan i value expected c
    have hfolded : (State.completed t s0).scanFolded (Transfer.wordsRead t s0.mem) = c := rfl
    rw [exec_scanReadComplete_of_kept h hkept]
    refine ⟨fun hleft => ?_, fun hend hkind => ?_, fun hend hkind => ?_⟩
    · rw [State.foldScanRead_of_left (s := State.completed t s0) _ hscan hleft, hfolded]
      exact congrArg (Host.Outcome.next ∘ State.finish)
        (State.requestScanRead_of_free (s := c) hscan rfl)
    · rw [State.foldScanRead_of_periodic (s := State.completed t s0) _ hkind hend,
        hfolded, State.endPeriodicScan_eq]
      rfl
    · rw [State.foldScanRead_of_onRequest (s := State.completed t s0) _ hkind hend,
        hfolded, State.endRequestedScan_eq]
      rfl
  · rw [exec_scanReadComplete_of_discarded h hdiscard]
    exact congrArg (Host.Outcome.next ∘ State.finish) (State.requestScanRead_of_none hnone)
  · rw [exec_scanReadComplete_of_discarded h hdiscard]
    exact congrArg (Host.Outcome.next ∘ State.finish) (State.requestScanRead_of_free hscan rfl)

end Sys2Proof.Machine
